-- ==== Sys2Proof/Word.lean ====
section
/-! DEFINITION. The words of the MFHD: the 32-bit request data and header word, and a byte of the window. -/

namespace Sys2Proof

/-- `req_data` and the header word `w`: 32 bits (R9, R60, R64). -/
abbrev Word := BitVec 32

/-- One byte `Bk` of the request window (R41). -/
abbrev Byte := BitVec 8

end Sys2Proof
end

