-- ==== Sys2Proof/Config.lean ====
section
/-! DEFINITION. What is fixed when the block is built, the parameters of R7: the four ROM tables and the five widths (both
are data in State, log 6, log 12); and the free values that stand for what the spec leaves unspecified. -/

namespace Sys2Proof

/-- The four read-only tables (R7, R27), with the shapes and cell widths of R27. A `T_VLMAP` cell is one of the six columns
0..5, so that R8's third constraint holds by its type (log 7). -/
structure Tables where
  /-- `T_VLMAP[version][layer]`: the bitrate column (R80). -/
  vlMap : Vector (Vector (Fin 6) 4) 4
  /-- `T_BITRATE[bitrate_index][column]`: kbps, 0 invalid (R81). -/
  bitrate : Vector (Vector (BitVec 9) 6) 16
  /-- `T_SR[sample_rate_index][version]`: Hz, 0 invalid (R82). -/
  sampleRate : Vector (Vector (BitVec 16) 4) 4
  /-- `T_L2ALLOWED[bitrate_index][channel_mode]`: one bit; a 1 rejects (R83, R130). -/
  l2Allowed : Vector (Vector (BitVec 1) 4) 17
deriving DecidableEq, Repr

/-- The width parameters (R7), in bits. The values they bound (a length, a size, a rate, a count) are numbers in the model,
each held below `2 ^ width` where it enters its port (log 12). -/
structure Widths where
  /-- `LEN_W`: width of the unsigned `req_len`. -/
  lenW : Nat
  /-- `FS_W`: width of `rsp_frame_size`. -/
  fsW : Nat
  /-- `SR_W`: width of `rsp_sample_rate`. -/
  srW : Nat
  /-- `SC_W`: width of `rsp_sample_count`. -/
  scW : Nat
  /-- `ARITH_W`: width of the frame-size datapath. -/
  arithW : Nat
deriving DecidableEq, Repr

/-- The default widths of this hardware (R7). -/
def Widths.default : Widths where
  lenW := 32
  fsW := 16
  srW := 16
  scW := 11
  arithW := 32

/-- Widths under which no value of a decode over tables that meet R8 is too wide: at least 26 bits for the products (R166),
13 for a size of at most 8065 (R165), 16 for a `T_SR` cell (R27), 11 for a sample count of at most 1152 (R148). -/
def Widths.ok (ws : Widths) : Bool :=
  decide (26 ≤ ws.arithW) && decide (13 ≤ ws.fsW) && decide (16 ≤ ws.srW) && decide (11 ≤ ws.scW)

namespace Config

/-! The RSP payload a reset edge leaves is unspecified (R30, R230; 93_implementation_defined.md I16 "any value"). Each
field takes a free value: a constant with no body, applied to the counter `freeCount` of State (log 4). -/

/-- Free value of `rsp_status` after a reset edge. -/
opaque freeStatus : Nat → BitVec 2
/-- Free value of `rsp_consumed` after a reset edge. -/
opaque freeConsumed : Nat → BitVec 3
/-- Free value of `rsp_frame_size` after a reset edge. -/
opaque freeFrameSize : Nat → Nat
/-- Free value of `rsp_sample_rate` after a reset edge. -/
opaque freeSampleRate : Nat → Nat
/-- Free value of `rsp_layout` after a reset edge. -/
opaque freeLayout : Nat → BitVec 1
/-- Free value of `rsp_sample_count` after a reset edge. -/
opaque freeSampleCount : Nat → Nat
/-- Free value of `rsp_diag` after a reset edge. -/
opaque freeDiag : Nat → BitVec 4
/-- Free value of `rsp_header` after a reset edge. -/
opaque freeHeader : Nat → BitVec 32

/-! The spec states no result where a value is too wide for the width parameter that bounds it, which no table that meets R8
causes at the default widths (R166). It takes a free value, a function of the width and the values concerned (log 13). -/

/-- Free amount added to a value `v` that is too wide for its `width`-bit output field. -/
opaque freeNarrowed (width v : Nat) : Nat
/-- Free amount added to a frame size one of whose `values` in the datapath is too wide for `arithW` bits. -/
opaque freeOverflow (arithW : Nat) (values : List Nat) : Nat

end Config
end Sys2Proof
end

