-- ==== Sys2Proof/Syntax.lean ====
section
/-! DEFINITION. The request (format REQ), the parsed frame header (format HDR32), and Instr: one constructor for each row of
spec/opcode_table.json. -/

namespace Sys2Proof

/-- Format REQ (R60): the two fields of a request, sampled together at the accepting edge (R45). -/
structure Request where
  /-- `req_len`: unsigned count of bytes available, below `2 ^ LEN_W` on the port (R7). -/
  len : Nat
  /-- `req_data`: the window, `B0` in bits 31:24 (R41). -/
  data : Word
deriving DecidableEq, Repr

/-- Format HDR32: the ten fields of the frame header in the source's order (R64, R65). -/
structure Header where
  /-- `w[31:21]` -/
  sync : BitVec 11
  /-- `w[20:19]` -/
  version : BitVec 2
  /-- `w[18:17]` -/
  layer : BitVec 2
  /-- `w[16]`, never read by the decode (R71) -/
  prot : BitVec 1
  /-- `w[15:12]`, bitrate_index -/
  bri : BitVec 4
  /-- `w[11:10]`, sample_rate_index -/
  sri : BitVec 2
  /-- `w[9]` -/
  padding : BitVec 1
  /-- `w[8]`, never read by the decode (R73) -/
  priv : BitVec 1
  /-- `w[7:6]`, channel_mode -/
  cm : BitVec 2
  /-- `w[5:0]`, never read by the decode (R74) -/
  other : BitVec 6
deriving DecidableEq, Repr

/-- The instructions: one constructor per row of spec/opcode_table.json. `decode` is the whole operation DECODE (R100); the
others are the rows of the decode map inside it (R84), each with the operands its format gives it (log 8, log 9). -/
inductive Instr where
  /-- DECODE: the only operation; every `(len, data)` is legal (R60, R61, R100). -/
  | decode (len : Nat) (data : Word)
  /-- DECODE.NEED_MORE: order 0, `len < 4`, `data` ignored (R84, R120). -/
  | needMore (len : Nat) (data : Word)
  /-- HDR.SYNC_ERR: order 1 (R124). -/
  | hdrSyncErr (h : Header)
  /-- HDR.VER_RES: order 2 (R125). -/
  | hdrVerRes (h : Header)
  /-- HDR.LAYER_RES: order 3 (R126). -/
  | hdrLayerRes (h : Header)
  /-- HDR.BRI_FREE: order 4 (R127). -/
  | hdrBriFree (h : Header)
  /-- HDR.BRI_BAD: order 5 (R127). -/
  | hdrBriBad (h : Header)
  /-- HDR.SRI_RES: order 6 (R128). -/
  | hdrSriRes (h : Header)
  /-- HDR.M1.L1: MPEG1 Layer I (R161). -/
  | hdrM1L1 (h : Header)
  /-- HDR.M1.L2: MPEG1 Layer II (R130, R162). -/
  | hdrM1L2 (h : Header)
  /-- HDR.M1.L3: MPEG1 Layer III (R162). -/
  | hdrM1L3 (h : Header)
  /-- HDR.M2.L1: MPEG2 Layer I (R161). -/
  | hdrM2L1 (h : Header)
  /-- HDR.M2.L2: MPEG2 Layer II (R130, R162). -/
  | hdrM2L2 (h : Header)
  /-- HDR.M2.L3: MPEG2 Layer III (R162). -/
  | hdrM2L3 (h : Header)
  /-- HDR.M25.L1: MPEG2.5 Layer I (R161). -/
  | hdrM25L1 (h : Header)
  /-- HDR.M25.L2: MPEG2.5 Layer II (R130, R162). -/
  | hdrM25L2 (h : Header)
  /-- HDR.M25.L3: MPEG2.5 Layer III (R162). -/
  | hdrM25L3 (h : Header)
deriving DecidableEq, Repr

end Sys2Proof
end

