-- ==== Sys2Proof/WellFormed.lean ====
section
/-! DEFINITION. When an instruction is one the decode map can select: each row's condition on the header's fields,
together with the failure of every earlier row ("the first row that matches, in this order, decides", R84). -/

namespace Sys2Proof

namespace Header

/-- The sync check passes (R75, R124). -/
def syncOk (h : Header) : Bool := h.sync == 0x7FF#11

/-- Sync and version pass (R125): `version` is not the reserved code `0b01`. -/
def versionOk (h : Header) : Bool := h.syncOk && h.version != 0b01#2

/-- Sync, version and layer pass (R126): `layer` is not the reserved code `0b00`. -/
def layerOk (h : Header) : Bool := h.versionOk && h.layer != 0b00#2

/-- The first four checks pass (R127): `bri` is neither free (0) nor bad (0xF). -/
def briOk (h : Header) : Bool := h.layerOk && h.bri != 0x0#4 && h.bri != 0xF#4

/-- All five checks of step 3 pass (R128, R129): `sri` is not the reserved code 3. -/
def accepted (h : Header) : Bool := h.briOk && h.sri != 0b11#2

/-- The header passes step 3 and has this version and layer code: the condition of an order-7 row. -/
def acceptedAs (h : Header) (version layer : BitVec 2) : Bool :=
  h.accepted && h.version == version && h.layer == layer

end Header

namespace Instr

/-- The instruction's operands meet its row of R84, and no earlier row. DECODE has no condition (R61). -/
def wf : Instr → Bool
  | decode _ _ => true
  | needMore len _ => decide (len < 4)
  | hdrSyncErr h => !h.syncOk
  | hdrVerRes h => h.syncOk && h.version == 0b01#2
  | hdrLayerRes h => h.versionOk && h.layer == 0b00#2
  | hdrBriFree h => h.layerOk && h.bri == 0x0#4
  | hdrBriBad h => h.layerOk && h.bri == 0xF#4
  | hdrSriRes h => h.briOk && h.sri == 0b11#2
  | hdrM1L1 h => h.acceptedAs 0b11#2 0b11#2
  | hdrM1L2 h => h.acceptedAs 0b11#2 0b10#2
  | hdrM1L3 h => h.acceptedAs 0b11#2 0b01#2
  | hdrM2L1 h => h.acceptedAs 0b10#2 0b11#2
  | hdrM2L2 h => h.acceptedAs 0b10#2 0b10#2
  | hdrM2L3 h => h.acceptedAs 0b10#2 0b01#2
  | hdrM25L1 h => h.acceptedAs 0b00#2 0b11#2
  | hdrM25L2 h => h.acceptedAs 0b00#2 0b10#2
  | hdrM25L3 h => h.acceptedAs 0b00#2 0b01#2

/-- The instruction is a row of the decode map (R84), that is, any row of the table but DECODE itself. -/
def isMapRow : Instr → Bool
  | decode _ _ => false
  | needMore _ _ | hdrSyncErr _ | hdrVerRes _ | hdrLayerRes _ | hdrBriFree _ | hdrBriBad _ | hdrSriRes _
  | hdrM1L1 _ | hdrM1L2 _ | hdrM1L3 _ | hdrM2L1 _ | hdrM2L2 _ | hdrM2L3 _
  | hdrM25L1 _ | hdrM25L2 _ | hdrM25L3 _ => true

end Instr
end Sys2Proof
end

