-- ==== Sys2Proof/Decode.lean ====
section
/-! DEFINITION. The bitfield parser, the decode map, the decoder and the encoder (R60 to R65, R84, R121). -/

namespace Sys2Proof

/-- PARSE: the ten fields of the header word by their fixed slices (R65, R121). -/
def parseHeader (w : Word) : Header where
  sync := w.extractLsb' 21 11
  version := w.extractLsb' 19 2
  layer := w.extractLsb' 17 2
  prot := w.extractLsb' 16 1
  bri := w.extractLsb' 12 4
  sri := w.extractLsb' 10 2
  padding := w.extractLsb' 9 1
  priv := w.extractLsb' 8 1
  cm := w.extractLsb' 6 2
  other := w.extractLsb' 0 6

/-- The header word of ten fields: the concatenation in the source's order, `sync` most significant (R9, R64). -/
def headerWord (h : Header) : Word :=
  h.sync ++ h.version ++ h.layer ++ h.prot ++ h.bri ++ h.sri ++ h.padding ++ h.priv ++ h.cm ++ h.other

/-- How a row of the map compares `w & mask` with `match` (spec/opcode_table.json, `match_mode`). -/
inductive MatchMode where
  | equal
  | notEqual
deriving DecidableEq, Repr

/-- The fifteen header classes of the decode map, orders 1 to 7 (R84). -/
inductive HeaderClass where
  | syncErr | verRes | layerRes | briFree | briBad | sriRes
  | m1L1 | m1L2 | m1L3 | m2L1 | m2L2 | m2L3 | m25L1 | m25L2 | m25L3
deriving DecidableEq, Repr

/-- One HDR32 row of the decode map (R84): its class, its comparison, its mask and its match value. -/
structure MapRow where
  cls : HeaderClass
  mode : MatchMode
  mask : Word
  value : Word
deriving DecidableEq, Repr

/-- The row's condition on the header word `w` (R84). -/
def rowMatches (r : MapRow) (w : Word) : Bool :=
  match r.mode with
  | .equal => w &&& r.mask == r.value
  | .notEqual => w &&& r.mask != r.value

/-- The HDR32 rows of the decode map in their order (R84; order 0 is the length condition, in `decode`). -/
def decodeMap : List MapRow :=
  [ ⟨.syncErr,  .notEqual, 0xFFE00000#32, 0xFFE00000#32⟩,
    ⟨.verRes,   .equal,    0xFFF80000#32, 0xFFE80000#32⟩,
    ⟨.layerRes, .equal,    0xFFE60000#32, 0xFFE00000#32⟩,
    ⟨.briFree,  .equal,    0x0000F000#32, 0x00000000#32⟩,
    ⟨.briBad,   .equal,    0x0000F000#32, 0x0000F000#32⟩,
    ⟨.sriRes,   .equal,    0x00000C00#32, 0x00000C00#32⟩,
    ⟨.m1L1,     .equal,    0xFFFE0000#32, 0xFFFE0000#32⟩,
    ⟨.m1L2,     .equal,    0xFFFE0000#32, 0xFFFC0000#32⟩,
    ⟨.m1L3,     .equal,    0xFFFE0000#32, 0xFFFA0000#32⟩,
    ⟨.m2L1,     .equal,    0xFFFE0000#32, 0xFFF60000#32⟩,
    ⟨.m2L2,     .equal,    0xFFFE0000#32, 0xFFF40000#32⟩,
    ⟨.m2L3,     .equal,    0xFFFE0000#32, 0xFFF20000#32⟩,
    ⟨.m25L1,    .equal,    0xFFFE0000#32, 0xFFE60000#32⟩,
    ⟨.m25L2,    .equal,    0xFFFE0000#32, 0xFFE40000#32⟩,
    ⟨.m25L3,    .equal,    0xFFFE0000#32, 0xFFE20000#32⟩ ]

/-- The instruction of a header class, with the parsed header as its operand. -/
def classInstr : HeaderClass → Header → Instr
  | .syncErr, h => .hdrSyncErr h
  | .verRes, h => .hdrVerRes h
  | .layerRes, h => .hdrLayerRes h
  | .briFree, h => .hdrBriFree h
  | .briBad, h => .hdrBriBad h
  | .sriRes, h => .hdrSriRes h
  | .m1L1, h => .hdrM1L1 h
  | .m1L2, h => .hdrM1L2 h
  | .m1L3, h => .hdrM1L3 h
  | .m2L1, h => .hdrM2L1 h
  | .m2L2, h => .hdrM2L2 h
  | .m2L3, h => .hdrM2L3 h
  | .m25L1, h => .hdrM25L1 h
  | .m25L2, h => .hdrM25L2 h
  | .m25L3, h => .hdrM25L3 h

/-- The decode map (R84): order 0 first, then the first HDR32 row that matches. `none` would be a request that no row
covers; there is none (R84 "cover every value"), and the statement StepNeverStops says so of every step. -/
def decode (r : Request) : Option Instr :=
  if r.len < 4 then some (.needMore r.len r.data)
  else (decodeMap.find? (rowMatches · r.data)).map fun row => classInstr row.cls (parseHeader r.data)

/-- Format REQ read as the one operation it always is (R60: "Every request is the operation DECODE"). -/
def decodeRequest (r : Request) : Instr := .decode r.len r.data

/-- The request that presents an instruction. A HDR32 row has no length field: its request carries `req_len = 4`, one of
the lengths of 4 or more that all act alike (R44, log 9). -/
def encode : Instr → Request
  | .decode len data => ⟨len, data⟩
  | .needMore len data => ⟨len, data⟩
  | .hdrSyncErr h => ⟨4, headerWord h⟩
  | .hdrVerRes h => ⟨4, headerWord h⟩
  | .hdrLayerRes h => ⟨4, headerWord h⟩
  | .hdrBriFree h => ⟨4, headerWord h⟩
  | .hdrBriBad h => ⟨4, headerWord h⟩
  | .hdrSriRes h => ⟨4, headerWord h⟩
  | .hdrM1L1 h => ⟨4, headerWord h⟩
  | .hdrM1L2 h => ⟨4, headerWord h⟩
  | .hdrM1L3 h => ⟨4, headerWord h⟩
  | .hdrM2L1 h => ⟨4, headerWord h⟩
  | .hdrM2L2 h => ⟨4, headerWord h⟩
  | .hdrM2L3 h => ⟨4, headerWord h⟩
  | .hdrM25L1 h => ⟨4, headerWord h⟩
  | .hdrM25L2 h => ⟨4, headerWord h⟩
  | .hdrM25L3 h => ⟨4, headerWord h⟩

/-- The request that an `nbits`-bit table word stands for (log 10). A row of at most 32 bits is a window of `nbits / 8`
bytes: HDR32's 32 bits are `B0..B3` with `req_len = 4`. A 64-bit word is format REQ whole: `data` in bits 31:0, `len` in
bits 63:32. DESIGN CHOICE (log 10): the spec defines no table word shorter than 32 bits, and R43 lets the host drive
anything on the window of a short request; here such a word stands in the low lanes of `data` and the lanes above it are 0,
so that the first byte of a 24-bit word is in bits 23:16 and not in `B0`'s lane 31:24. No response shows the lanes (R43). -/
def tableRequest (nbits w : Nat) : Request :=
  if nbits = 64 then ⟨w / 2 ^ 32 % 2 ^ 32, BitVec.ofNat 32 w⟩
  else ⟨nbits / 8, BitVec.ofNat 32 w⟩

/-- What the decoder reads from an `nbits`-bit word `w` numbered as spec/opcode_table.json numbers it: the decode map on a
header word, and DECODE on a whole 64-bit REQ word (log 10). -/
def decodeTableWord (nbits w : Nat) : Option Instr :=
  if nbits = 64 then some (decodeRequest (tableRequest nbits w))
  else decode (tableRequest nbits w)

end Sys2Proof
end

