-- ==== Sys2Proof/Machine/Tables.lean ====
section
/-! DEFINITION. The default contents of the four ROM tables (R80 to R83; the cells are the spec's general knowledge, log 6)
and the constraint a parameterised table must satisfy (R8). -/

namespace Sys2Proof.Machine

/-- `T_VLMAP[version][layer]` (R80). -/
def defaultVlMap : Vector (Vector (Fin 6) 4) 4 :=
  #v[#v[5, 4, 4, 3],
     #v[5, 5, 5, 5],
     #v[5, 4, 4, 3],
     #v[5, 2, 1, 0]]

/-- `T_BITRATE[bitrate_index][column]` in kbps (R81). -/
def defaultBitrate : Vector (Vector (BitVec 9) 6) 16 :=
  #v[#v[0, 0, 0, 0, 0, 0],
     #v[32, 32, 32, 32, 8, 0],
     #v[64, 48, 40, 48, 16, 0],
     #v[96, 56, 48, 56, 24, 0],
     #v[128, 64, 56, 64, 32, 0],
     #v[160, 80, 64, 80, 40, 0],
     #v[192, 96, 80, 96, 48, 0],
     #v[224, 112, 96, 112, 56, 0],
     #v[256, 128, 112, 128, 64, 0],
     #v[288, 160, 128, 144, 80, 0],
     #v[320, 192, 160, 160, 96, 0],
     #v[352, 224, 192, 176, 112, 0],
     #v[384, 256, 224, 192, 128, 0],
     #v[416, 320, 256, 224, 144, 0],
     #v[448, 384, 320, 256, 160, 0],
     #v[0, 0, 0, 0, 0, 0]]

/-- `T_SR[sample_rate_index][version]` in Hz (R82). -/
def defaultSampleRate : Vector (Vector (BitVec 16) 4) 4 :=
  #v[#v[11025, 0, 22050, 44100],
     #v[12000, 0, 24000, 48000],
     #v[8000, 0, 16000, 32000],
     #v[0, 0, 0, 0]]

/-- `T_L2ALLOWED[bitrate_index][channel_mode]` (R83); row 16 is never read (R147, C2). -/
def defaultL2Allowed : Vector (Vector (BitVec 1) 4) 17 :=
  #v[#v[1, 1, 1, 1],
     #v[1, 0, 0, 0],
     #v[1, 0, 0, 0],
     #v[1, 0, 0, 0],
     #v[1, 1, 1, 1],
     #v[1, 0, 0, 0],
     #v[1, 1, 1, 1],
     #v[1, 1, 1, 1],
     #v[1, 1, 1, 1],
     #v[1, 1, 1, 1],
     #v[1, 1, 1, 1],
     #v[0, 1, 1, 1],
     #v[0, 1, 1, 1],
     #v[0, 1, 1, 1],
     #v[0, 1, 1, 1],
     #v[0, 0, 0, 0],
     #v[0, 0, 0, 0]]

/-- The default ROM contents (R7). -/
def defaultTables : Tables where
  vlMap := defaultVlMap
  bitrate := defaultBitrate
  sampleRate := defaultSampleRate
  l2Allowed := defaultL2Allowed

/-- R8: every `T_BITRATE` cell is in 0..448, column 5 of it is all zero, and every `T_SR` cell is 0 or at least 8000. The
bounds 65535 on `T_SR` and 0..5 on `T_VLMAP` hold by the cells' types. -/
def tablesOk (t : Tables) : Bool :=
  t.bitrate.toList.all (fun row => row.toList.all (fun c => decide (c ≤ 448#9)) && row.get 5 == 0#9) &&
  t.sampleRate.toList.all (fun row => row.toList.all (fun c => c == 0#16 || decide (8000#16 ≤ c)))

end Sys2Proof.Machine
end

