-- ==== Sys2Proof/Machine/State.lean ====
section
/-! DEFINITION. The state of the MFHD as plain data (10_state.md), the ports it is driven by (R101), its stop reasons, and
the state after reset (R30, R230). -/

namespace Sys2Proof.Machine

/-- The payload of the response register RSP: every field of R23 but `rsp_valid`. It is also what `Decode` returns
(R102, R182, R183, R185). -/
structure Response where
  /-- `rsp_status`: 0 OK, 1 NEED_MORE, 2 INVALID (R200). -/
  status : BitVec 2
  /-- `rsp_consumed`: 4 on OK, 0 otherwise (R108). -/
  consumed : BitVec 3
  /-- `rsp_frame_size` in bytes, `FS_W` bits. -/
  frameSize : Nat
  /-- `rsp_sample_rate` in Hz, `SR_W` bits. -/
  sampleRate : Nat
  /-- `rsp_layout`: 0 MONO, 1 STEREO (R181). -/
  layout : BitVec 1
  /-- `rsp_sample_count`: samples per frame, `SC_W` bits. -/
  sampleCount : Nat
  /-- `rsp_diag` (R202). -/
  diag : BitVec 4
  /-- `rsp_header`: the header word on OK and INVALID. -/
  header : BitVec 32
deriving DecidableEq, Repr

/-- What the host drives just before one rising edge of `clk` (R101, direction "in"; `clk` is the step itself). -/
structure PortsIn where
  /-- `rst_n`: synchronous reset, active low (R230). -/
  rstN : Bool
  /-- `req_valid` -/
  reqValid : Bool
  /-- `req_len`, `LEN_W` bits (log 12) -/
  reqLen : Nat
  /-- `req_data` -/
  reqData : Word
  /-- `rsp_ready` -/
  rspReady : Bool
deriving DecidableEq, Repr

/-- What the MFHD drives (R101, direction "out"). -/
structure PortsOut where
  /-- `req_ready` (R104) -/
  reqReady : Bool
  /-- `rsp_valid` -/
  rspValid : Bool
  /-- the eight payload outputs, each driven from the RSP field of its name -/
  rsp : Response
deriving DecidableEq, Repr

/-- The state of the MFHD: RSP (R23), the ROM tables (R27), the width parameters (R7), and two fields of the model's own:
what the host will drive at the coming edges, and the index of the next free value. -/
structure State where
  /-- `rsp_valid`: RSP holds a response not yet taken (R24). -/
  rspValid : Bool
  /-- RSP's payload fields (R23). -/
  rsp : Response
  /-- The four read-only tables, fixed at build time (R26, R27). -/
  rom : Tables
  /-- The width parameters, fixed at build time (R7, R26, log 12). -/
  widths : Widths
  /-- The MODEL's own: the input ports at each coming edge, the next edge first (log 1). -/
  inputs : List PortsIn
  /-- The MODEL's own: the index of the next free value (log 5). -/
  freeCount : Nat
deriving DecidableEq, Repr

/-- Why a step can stop with a fault: it cannot. "No request makes the block fault, hang, stop or enter an unrecoverable
state" (R205), so the type has no constructor. -/
inductive Fault
deriving DecidableEq, Repr

/-- Why the model has no meaning for an instruction. -/
inductive Refusal where
  /-- Raised by exec's arm of an instruction that has no meaning yet; there is none. Safe. -/
  | notModelled (mnemonic : String)
  /-- Raised by step if a request matched no row of the decode map; no request does (R84), so it is never raised. Safe
  (log 16). -/
  | noMapRow
deriving DecidableEq, Repr

/-- The answer of a meaning or of a step. -/
abbrev Outcome := Host.Outcome State Fault Refusal

/-- The RSP payload of `State.reset`. The spec leaves it unspecified (R30): DESIGN CHOICE, all fields 0, unsafe (log 3). -/
def Response.zero : Response where
  status := 0#2
  consumed := 0#3
  frameSize := 0
  sampleRate := 0
  layout := 0#1
  sampleCount := 0
  diag := 0#4
  header := 0#32

/-- The machine right after reset: RSP empty (R30, R230), the tables and the widths as built (R7, R30), no input listed
(log 1), the first free value next (log 5). -/
def State.reset : State where
  rspValid := false
  rsp := Response.zero
  rom := defaultTables
  widths := Widths.default
  inputs := []
  freeCount := 0

end Sys2Proof.Machine
end

