-- ==== Sys2Proof/Machine/Operands.lean ====
section
/-! DEFINITION. The operands a decode works on: the bytes of the request window (R41, R42), the codes of the header fields
(R66 to R68), and the reads of the four tables (R140 to R148). -/

namespace Sys2Proof.Machine

/-- `B0 = req_data[31:24]` (R41). -/
def byte0 (data : Word) : Byte := data.extractLsb' 24 8
/-- `B1 = req_data[23:16]` (R41). -/
def byte1 (data : Word) : Byte := data.extractLsb' 16 8
/-- `B2 = req_data[15:8]` (R41). -/
def byte2 (data : Word) : Byte := data.extractLsb' 8 8
/-- `B3 = req_data[7:0]` (R41). -/
def byte3 (data : Word) : Byte := data.extractLsb' 0 8

/-- The header word of a window, `{B0, B1, B2, B3}` (R10, R42). -/
def windowWord (b0 b1 b2 b3 : Byte) : Word := b0 ++ b1 ++ b2 ++ b3

/-- `version` code of MPEG2.5 (R66). -/
def mpeg25 : BitVec 2 := 0b00#2
/-- The reserved `version` code (R66). -/
def versionReserved : BitVec 2 := 0b01#2
/-- `version` code of MPEG2 (R66). -/
def mpeg2 : BitVec 2 := 0b10#2
/-- `version` code of MPEG1 (R66). -/
def mpeg1 : BitVec 2 := 0b11#2

/-- The reserved `layer` code (R67). -/
def layerReserved : BitVec 2 := 0b00#2
/-- `layer` code of Layer III (R67). -/
def layerIII : BitVec 2 := 0b01#2
/-- `layer` code of Layer II (R67). -/
def layerII : BitVec 2 := 0b10#2
/-- `layer` code of Layer I (R67). -/
def layerI : BitVec 2 := 0b11#2

/-- `channel_mode` code of SingleChannel (R68). -/
def singleChannel : BitVec 2 := 0b11#2

/-- LK_COL: `T_VLMAP[version][layer]` (R140). -/
def lookupColumn (t : Tables) (version layer : BitVec 2) : Fin 6 :=
  (t.vlMap.get version.toFin).get layer.toFin

/-- LK_BR: `T_BITRATE[bri][col]` in kbps (R142). -/
def lookupBitrate (t : Tables) (bri : BitVec 4) (col : Fin 6) : BitVec 9 :=
  (t.bitrate.get bri.toFin).get col

/-- LK_SR: `T_SR[sri][version]` in Hz; the column is the raw version code (R144). -/
def lookupSampleRate (t : Tables) (sri version : BitVec 2) : BitVec 16 :=
  (t.sampleRate.get sri.toFin).get version.toFin

/-- `T_L2ALLOWED[bri][cm]`; a 4-bit `bri` never selects row 16 (R147). -/
def lookupL2Allowed (t : Tables) (bri : BitVec 4) (cm : BitVec 2) : BitVec 1 :=
  (t.l2Allowed.get (Fin.castLE (by decide) bri.toFin)).get cm.toFin

/-- LK_SPF: samples per frame of an accepted version and layer (R148). The listing's last case, Layer III of MPEG1, is the
last arm here; R148 gives no value for a reserved layer, which step 3 has rejected. -/
def samplesPerFrame (version layer : BitVec 2) : Nat :=
  if layer = layerI then 384
  else if layer = layerII then 1152
  else if version = mpeg2 ∨ version = mpeg25 then 576
  else 1152

/-- The `width`-bit output field that carries `v` (`zext`, R11): `v` itself where it fits. The spec states no value where it
does not: a free amount is then added, so that the field may hold any value of its width (log 13). -/
def narrow (width v : Nat) : Nat := (v + if v < 2 ^ width then 0 else Config.freeNarrowed width v) % 2 ^ width

end Sys2Proof.Machine
end

