-- ==== Sys2Proof/Machine/FrameSize.lean ====
section
/-! DEFINITION. The frame-size calculator (43_frame_size.md): exact unsigned arithmetic on values held in `ARITH_W` bits,
`div` truncating toward zero (R11, R160). -/

namespace Sys2Proof.Machine

/-- The result `v` of the datapath: exact while every one of the `values` it holds fits `ARITH_W` bits (R160, R166). The spec
states no result where one does not: a free amount is then added, so that it may be any value of that width (log 13). -/
def held (ws : Widths) (values : List Nat) (v : Nat) : Nat :=
  (v + if values.all (fun x => decide (x < 2 ^ ws.arithW)) then 0 else Config.freeOverflow ws.arithW values) % 2 ^ ws.arithW

/-- The bitrate in bits per second, `br * 1000` (R160). -/
def bitsPerSecond (br : BitVec 9) : Nat := br.toNat * 1000

/-- FS_L1: `4 * ((12 * br * 1000) div sr) + 4 * padding` (R161, R163). -/
def frameSizeL1 (ws : Widths) (br : BitVec 9) (sr : BitVec 16) (padding : BitVec 1) : Nat :=
  let product := 12 * bitsPerSecond br
  let fs := 4 * (product / sr.toNat) + 4 * padding.toNat
  held ws [bitsPerSecond br, product, sr.toNat, fs] fs

/-- FS_L23: `((spf div 8) * br * 1000) div sr + padding` (R162, R163). -/
def frameSizeL23 (ws : Widths) (spf : Nat) (br : BitVec 9) (sr : BitVec 16) (padding : BitVec 1) : Nat :=
  let product := spf / 8 * bitsPerSecond br
  let fs := product / sr.toNat + padding.toNat
  held ws [spf, bitsPerSecond br, product, sr.toNat, fs] fs

end Sys2Proof.Machine
end

