-- ==== Sys2Proof/Machine/Flags.lean ====
section
/-! DEFINITION. The outcome fields of RSP, the only flags the block has (R22): status, diagnostic and layout codes, and the
three results `Ok`, `Invalid` and `NeedMore` (R180 to R185, R200, R202). -/

namespace Sys2Proof.Machine

/-- `rsp_status` OK (R200). -/
def statusOk : BitVec 2 := 0#2
/-- `rsp_status` NEED_MORE (R200). -/
def statusNeedMore : BitVec 2 := 1#2
/-- `rsp_status` INVALID (R200). -/
def statusInvalid : BitVec 2 := 2#2

/-- `rsp_diag` NONE (R202). -/
def diagNone : BitVec 4 := 0#4
/-- `rsp_diag` NEED_MORE (R202). -/
def diagNeedMore : BitVec 4 := 1#4
/-- `rsp_diag` SYNC (R202). -/
def diagSync : BitVec 4 := 2#4
/-- `rsp_diag` VERSION_RESERVED (R202). -/
def diagVersion : BitVec 4 := 3#4
/-- `rsp_diag` LAYER_RESERVED (R202). -/
def diagLayer : BitVec 4 := 4#4
/-- `rsp_diag` BITRATE_INDEX (R202). -/
def diagBitrateIndex : BitVec 4 := 5#4
/-- `rsp_diag` SAMPLE_RATE_INDEX (R202). -/
def diagSampleRateIndex : BitVec 4 := 6#4
/-- `rsp_diag` L2_COMBINATION (R202). -/
def diagL2Combination : BitVec 4 := 7#4
/-- `rsp_diag` BITRATE_ZERO (R202). -/
def diagBitrateZero : BitVec 4 := 8#4
/-- `rsp_diag` SAMPLE_RATE_ZERO (R202). -/
def diagSampleRateZero : BitVec 4 := 9#4

/-- `rsp_layout` MONO (R181). -/
def layoutMono : BitVec 1 := 0#1
/-- `rsp_layout` STEREO (R181). -/
def layoutStereo : BitVec 1 := 1#1

/-- MAP_CH (R180): SingleChannel is Mono, every other channel mode Stereo. -/
def mapChannel (cm : BitVec 2) : BitVec 1 := if cm = singleChannel then layoutMono else layoutStereo

/-- `Ok(fs, sr, layout, spf, w)` (R182): each number widened to the port that carries it. -/
def okResponse (ws : Widths) (fs : Nat) (sr : BitVec 16) (layout : BitVec 1) (spf : Nat) (w : Word) : Response where
  status := statusOk
  consumed := 4#3
  frameSize := narrow ws.fsW fs
  sampleRate := narrow ws.srW sr.toNat
  layout := layout
  sampleCount := narrow ws.scW spf
  diag := diagNone
  header := w

/-- `Invalid(code)` (R183): the derived fields are forced to 0, the raw header word stays. -/
def invalidResponse (code : BitVec 4) (w : Word) : Response where
  status := statusInvalid
  consumed := 0#3
  frameSize := 0
  sampleRate := 0
  layout := 0#1
  sampleCount := 0
  diag := code
  header := w

/-- `NeedMore()` (R185): no bit of the request bytes shows. -/
def needMoreResponse : Response where
  status := statusNeedMore
  consumed := 0#3
  frameSize := 0
  sampleRate := 0
  layout := 0#1
  sampleCount := 0
  diag := diagNeedMore
  header := 0#32

end Sys2Proof.Machine
end

