-- ==== Sys2Proof/Machine/Ops.lean ====
section
/-! DEFINITION. The named operations on State: writing RSP at the accepting edge (R105), raising Invalid (R201), the
reset edge (R230), the taking of a response (R105), the handshake conditions (R103, R104), the output ports (R101), and the
input ports of an edge (log 1, log 2). -/

namespace Sys2Proof.Machine

/-- The accepting edge's write (R105): the payload takes the response, `rsp_valid` becomes 1, nothing else changes
(R100). -/
def writeRsp (r : Response) (s : State) : State := { s with rsp := r, rspValid := true }

/-- A decode that ends with the response `r` (R100: `RSP <- Decode(len, data); rsp_valid <- 1`). -/
def respond (r : Response) (s : State) : Outcome := .next (writeRsp r s)

/-- `raise Invalid(code)` (R201): the block's only exception-like event. It ends the decode with the payload of R183 and
saves nothing: no pc, cause, address or mode (R208), and there is no return from it (R209). -/
def raiseInvalid (code : BitVec 4) (w : Word) (s : State) : Outcome := respond (invalidResponse code w) s

/-- A rising edge with `rst_n = 0` (R105, R230): `rsp_valid <- 0`, the payload takes unspecified values (R30), here free
values indexed by `freeCount` (log 4). -/
def resetEdge (s : State) : State :=
  { s with
    rspValid := false
    rsp :=
      { status := Config.freeStatus s.freeCount
        consumed := Config.freeConsumed s.freeCount
        frameSize := Config.freeFrameSize s.freeCount % 2 ^ s.widths.fsW
        sampleRate := Config.freeSampleRate s.freeCount % 2 ^ s.widths.srW
        layout := Config.freeLayout s.freeCount
        sampleCount := Config.freeSampleCount s.freeCount % 2 ^ s.widths.scW
        diag := Config.freeDiag s.freeCount
        header := Config.freeHeader s.freeCount }
    freeCount := s.freeCount + 1 }

/-- The response is taken and no request accepted (R105): `rsp_valid <- 0`, the payload keeps its value (R25). -/
def takeRsp (s : State) : State := { s with rspValid := false }

/-- `req_ready = rst_n and (not rsp_valid or rsp_ready)` (R104). -/
def reqReady (s : State) (p : PortsIn) : Bool := p.rstN && (!s.rspValid || p.rspReady)

/-- A request is accepted at this edge (R103). -/
def accepts (s : State) (p : PortsIn) : Bool := p.rstN && p.reqValid && reqReady s p

/-- The waiting response is taken at this edge (R103). -/
def takes (s : State) (p : PortsIn) : Bool := p.rstN && s.rspValid && p.rspReady

/-- The output ports just before an edge at which the host drives `p` (R101, R104). -/
def portsOut (s : State) (p : PortsIn) : PortsOut where
  reqReady := reqReady s p
  rspValid := s.rspValid
  rsp := s.rsp

/-- What the host may observe of RSP: the payload while `rsp_valid = 1`, and nothing while it is 0 (R25). -/
def observedRsp (s : State) : Option Response := if s.rspValid then some s.rsp else none

/-- A host that presents nothing and takes nothing (DESIGN CHOICE, log 2). -/
def idlePorts : PortsIn where
  rstN := true
  reqValid := false
  reqLen := 0
  reqData := 0
  rspReady := false

/-- What the host drives at the next edge: the first listed entry, or the idle values past the list's end (log 1, log 2). -/
def nextPorts (s : State) : PortsIn := s.inputs.head?.getD idlePorts

/-- The edge's inputs are past. -/
def advance (s : State) : State := { s with inputs := s.inputs.tail }

/-- The request on the ports (R45: length and window sampled together). `req_len` has `LEN_W` bits (R7): of a listed number
that does not fit it, the port carries the low `LEN_W` bits (DESIGN CHOICE, log 12). -/
def portRequest (ws : Widths) (p : PortsIn) : Request := ⟨p.reqLen % 2 ^ ws.lenW, p.reqData⟩

end Sys2Proof.Machine
end

