-- ==== Sys2Proof/Machine/Layers.lean ====
section
/-! DEFINITION. The nine rows of the decode map that reach the lookups (R84 order 7): one path per layer, shared by the
versions, and one meaning per row. A row's version and layer are its constructor's (log 18). -/

namespace Sys2Proof.Machine

/-- Steps 5, 6, 9 and 10 (R140 to R145, R180, R182) of a header of this version and layer: the zero checks in their order,
then the result, with the frame size that `size` computes from the bitrate and the sample rate. -/
def resolve (version layer : BitVec 2) (spf : Nat) (size : BitVec 9 → BitVec 16 → Nat) (h : Header)
    (s : State) : Outcome :=
  let br := lookupBitrate s.rom h.bri (lookupColumn s.rom version layer)
  let sr := lookupSampleRate s.rom h.sri version
  if br = 0#9 then raiseInvalid diagBitrateZero (headerWord h) s
  else if sr = 0#16 then raiseInvalid diagSampleRateZero (headerWord h) s
  else respond (okResponse s.widths (size br sr) sr (mapChannel h.cm) spf (headerWord h)) s

/-- The Layer I path: 384 samples (R148) and 4-byte slots (R161). -/
def layerIPath (version : BitVec 2) (h : Header) (s : State) : Outcome :=
  resolve version layerI 384 (fun br sr => frameSizeL1 s.widths br sr h.padding) h s

/-- The Layer II path: the combination check first, a cell of 1 rejecting (R130), then 1152 samples (R148) and byte slots
(R162). -/
def layerIIPath (version : BitVec 2) (h : Header) (s : State) : Outcome :=
  if lookupL2Allowed s.rom h.bri h.cm = 1#1 then raiseInvalid diagL2Combination (headerWord h) s
  else resolve version layerII 1152 (fun br sr => frameSizeL23 s.widths 1152 br sr h.padding) h s

/-- The Layer III path, with the version's samples per frame (R148), in byte slots (R162). -/
def layerIIIPath (version : BitVec 2) (spf : Nat) (h : Header) (s : State) : Outcome :=
  resolve version layerIII spf (fun br sr => frameSizeL23 s.widths spf br sr h.padding) h s

/-- HDR.M1.L1: MPEG1 Layer I (R161). -/
def execHdrM1L1 (h : Header) (s : State) : Outcome := layerIPath mpeg1 h s

/-- HDR.M1.L2: MPEG1 Layer II (R130, R162). -/
def execHdrM1L2 (h : Header) (s : State) : Outcome := layerIIPath mpeg1 h s

/-- HDR.M1.L3: MPEG1 Layer III, 1152 samples (R148, R162). -/
def execHdrM1L3 (h : Header) (s : State) : Outcome := layerIIIPath mpeg1 1152 h s

/-- HDR.M2.L1: MPEG2 Layer I (R161). -/
def execHdrM2L1 (h : Header) (s : State) : Outcome := layerIPath mpeg2 h s

/-- HDR.M2.L2: MPEG2 Layer II (R130, R162). -/
def execHdrM2L2 (h : Header) (s : State) : Outcome := layerIIPath mpeg2 h s

/-- HDR.M2.L3: MPEG2 Layer III, 576 samples (R148, R162). -/
def execHdrM2L3 (h : Header) (s : State) : Outcome := layerIIIPath mpeg2 576 h s

/-- HDR.M25.L1: MPEG2.5 Layer I (R161). -/
def execHdrM25L1 (h : Header) (s : State) : Outcome := layerIPath mpeg25 h s

/-- HDR.M25.L2: MPEG2.5 Layer II (R130, R162). -/
def execHdrM25L2 (h : Header) (s : State) : Outcome := layerIIPath mpeg25 h s

/-- HDR.M25.L3: MPEG2.5 Layer III, 576 samples (R148, R162). -/
def execHdrM25L3 (h : Header) (s : State) : Outcome := layerIIIPath mpeg25 576 h s

end Sys2Proof.Machine
end

