-- ==== Sys2Proof/Machine/Reject.lean ====
section
/-! DEFINITION. The six rows of the decode map that reject a reserved or unsupported code (R84 orders 1 to 6, R85). A row does
not check again what the map checked (log 18). -/

namespace Sys2Proof.Machine

/-- HDR.SYNC_ERR (R124): INVALID diag 2. -/
def execHdrSyncErr (h : Header) (s : State) : Outcome := raiseInvalid diagSync (headerWord h) s

/-- HDR.VER_RES (R125): INVALID diag 3. -/
def execHdrVerRes (h : Header) (s : State) : Outcome := raiseInvalid diagVersion (headerWord h) s

/-- HDR.LAYER_RES (R126): INVALID diag 4. -/
def execHdrLayerRes (h : Header) (s : State) : Outcome := raiseInvalid diagLayer (headerWord h) s

/-- HDR.BRI_FREE (R127): free format is unsupported, INVALID diag 5. -/
def execHdrBriFree (h : Header) (s : State) : Outcome := raiseInvalid diagBitrateIndex (headerWord h) s

/-- HDR.BRI_BAD (R127): INVALID diag 5. -/
def execHdrBriBad (h : Header) (s : State) : Outcome := raiseInvalid diagBitrateIndex (headerWord h) s

/-- HDR.SRI_RES (R128): INVALID diag 6. -/
def execHdrSriRes (h : Header) (s : State) : Outcome := raiseInvalid diagSampleRateIndex (headerWord h) s

end Sys2Proof.Machine
end

