-- ==== Sys2Proof/Machine/Request.lean ====
section
/-! DEFINITION. The two rows of format REQ: DECODE, by the listing of R102 whole, and DECODE.NEED_MORE. -/

namespace Sys2Proof.Machine

/-- Steps 3 to 10 of the listing (R102) on the parsed header `h` of the word `w`, over the tables `t` and the widths `ws`. -/
def decodeHeader (t : Tables) (ws : Widths) (h : Header) (w : Word) : Response :=
  -- step 3 (R124 to R129)
  if h.sync ≠ 0x7FF#11 then invalidResponse diagSync w else
  if h.version = versionReserved then invalidResponse diagVersion w else
  if h.layer = layerReserved then invalidResponse diagLayer w else
  if h.bri = 0x0#4 ∨ h.bri = 0xF#4 then invalidResponse diagBitrateIndex w else
  if h.sri = 0b11#2 then invalidResponse diagSampleRateIndex w else
  -- step 4, literal polarity (R130, C1)
  if h.layer = layerII ∧ lookupL2Allowed t h.bri h.cm = 1#1 then invalidResponse diagL2Combination w else
  -- step 5 (R140 to R143)
  let br := lookupBitrate t h.bri (lookupColumn t h.version h.layer)
  if br = 0#9 then invalidResponse diagBitrateZero w else
  -- step 6 (R144, R145)
  let sr := lookupSampleRate t h.sri h.version
  if sr = 0#16 then invalidResponse diagSampleRateZero w else
  -- step 7 (R148)
  let spf := samplesPerFrame h.version h.layer
  -- step 8 (R161 to R163)
  let fs := if h.layer = layerI then frameSizeL1 ws br sr h.padding else frameSizeL23 ws spf br sr h.padding
  -- steps 9 and 10 (R180, R182)
  okResponse ws fs sr (mapChannel h.cm) spf w

/-- The function `Decode(len, data)` (R102): step 1, the length (R120), step 2, the parser (R121), then the rest of the
listing. -/
def decodeFunction (t : Tables) (ws : Widths) (len : Nat) (data : Word) : Response :=
  if len < 4 then needMoreResponse else decodeHeader t ws (parseHeader data) data

/-- DECODE (R100): `RSP <- Decode(len, data); rsp_valid <- 1`. -/
def execDecode (len : Nat) (data : Word) (s : State) : Outcome := respond (decodeFunction s.rom s.widths len data) s

/-- DECODE.NEED_MORE (R120, R185): neither operand shows in the response (R43). The map checked the length (log 18). -/
def execNeedMore (_len : Nat) (_data : Word) (s : State) : Outcome := respond needMoreResponse s

end Sys2Proof.Machine
end

