-- ==== Sys2Proof/Machine/Dispatch.lean ====
section
/-! DEFINITION. One arm per row of spec/opcode_table.json: the instruction's meaning. -/

namespace Sys2Proof.Machine

def exec (i : Instr) (s : State) : Host.Outcome State Fault Refusal :=
  match i with
  | .decode len data => Sys2Proof.Machine.execDecode len data s
  | .needMore len data => Sys2Proof.Machine.execNeedMore len data s
  | .hdrSyncErr h => Sys2Proof.Machine.execHdrSyncErr h s
  | .hdrVerRes h => Sys2Proof.Machine.execHdrVerRes h s
  | .hdrLayerRes h => Sys2Proof.Machine.execHdrLayerRes h s
  | .hdrBriFree h => Sys2Proof.Machine.execHdrBriFree h s
  | .hdrBriBad h => Sys2Proof.Machine.execHdrBriBad h s
  | .hdrSriRes h => Sys2Proof.Machine.execHdrSriRes h s
  | .hdrM1L1 h => Sys2Proof.Machine.execHdrM1L1 h s
  | .hdrM1L2 h => Sys2Proof.Machine.execHdrM1L2 h s
  | .hdrM1L3 h => Sys2Proof.Machine.execHdrM1L3 h s
  | .hdrM2L1 h => Sys2Proof.Machine.execHdrM2L1 h s
  | .hdrM2L2 h => Sys2Proof.Machine.execHdrM2L2 h s
  | .hdrM2L3 h => Sys2Proof.Machine.execHdrM2L3 h s
  | .hdrM25L1 h => Sys2Proof.Machine.execHdrM25L1 h s
  | .hdrM25L2 h => Sys2Proof.Machine.execHdrM25L2 h s
  | .hdrM25L3 h => Sys2Proof.Machine.execHdrM25L3 h s

end Sys2Proof.Machine
end

