-- ==== Sys2Proof/Machine/Step.lean ====
section
/-! DEFINITION. One step: one rising edge of `clk` (R105). -/

namespace Sys2Proof.Machine

/-- The update of RSP at one rising edge (R105), with the ports `nextPorts s` just before it. A reset edge comes first; then
a request, if one is accepted, runs as the row of the decode map it is (R84); then a take; otherwise nothing changes. -/
def step (s : State) : Host.Outcome State Fault Refusal :=
  let p := nextPorts s
  let s' := advance s
  if p.rstN = false then .next (resetEdge s')
  else if accepts s p then
    match decode (portRequest s.widths p) with
    | some i => exec i s'
    | none => .refused .noMapRow
  else if takes s p then .next (takeRsp s')
  else .next s'

/-- `s` with one more edge before its listed inputs, at which the host presents the request of the table word `w` and takes
any waiting response, so that the very next step accepts and runs it, if its length fits `LEN_W` bits (log 10). -/
def State.withFetchWord (s : State) (nbits w : Nat) : State :=
  let r := tableRequest nbits w
  { s with inputs := ⟨true, true, r.len, r.data, true⟩ :: s.inputs }

end Sys2Proof.Machine
end

