-- ==== Sys2Proof/Machine/BitReader.lean ====
section
/-! DEFINITION. The source's sequential Bit Reader (R122), kept as the reference that the fixed slices of the parser replace
in the MFHD: the block itself has no cursor (D20). Its exhaustion is R123's. -/

namespace Sys2Proof.Machine

/-- The bits of a byte, bit 7 first. -/
def byteBits (b : Byte) : List Bool :=
  [b.getMsbD 0, b.getMsbD 1, b.getMsbD 2, b.getMsbD 3, b.getMsbD 4, b.getMsbD 5, b.getMsbD 6, b.getMsbD 7]

/-- The unsigned value of a list of bits, the first the most significant (R10 "MSB-first"). -/
def bitsValue (bits : List Bool) : Nat := bits.foldl (fun n b => 2 * n + b.toNat) 0

/-- One sequential read of `n` bits: the value and the bits that remain, or `none` when the reader is exhausted (R122,
R123). -/
def readBits (n : Nat) (bits : List Bool) : Option (BitVec n × List Bool) :=
  if n ≤ bits.length then some (BitVec.ofNat n (bitsValue (bits.take n)), bits.drop n) else none

/-- The ten sequential reads of 11, 2, 2, 1, 4, 2, 1, 1, 2 and 6 bits of a buffer (R122). -/
def readHeader (buffer : List Byte) : Option Header := do
  let bits := buffer.flatMap byteBits
  let (sync, bits) ← readBits 11 bits
  let (version, bits) ← readBits 2 bits
  let (layer, bits) ← readBits 2 bits
  let (prot, bits) ← readBits 1 bits
  let (bri, bits) ← readBits 4 bits
  let (sri, bits) ← readBits 2 bits
  let (padding, bits) ← readBits 1 bits
  let (priv, bits) ← readBits 1 bits
  let (cm, bits) ← readBits 2 bits
  let (other, _) ← readBits 6 bits
  pure ⟨sync, version, layer, prot, bri, sri, padding, priv, cm, other⟩

end Sys2Proof.Machine
end

