-- ==== Sys2Proof/Safety.lean ====
section
/-! DEFINITION. What claims about runs are stated in: the legal responses of R23, the invariant, and the requests accepted
and the responses taken over a number of edges (R50). -/

namespace Sys2Proof.Machine

/-- A response of status OK with legal fields (R23, R182), over tables that meet R8: the frame size within R165's bound for
such tables, the sample rate a nonzero cell of `T_SR`. -/
def Response.IsOk (t : Tables) (r : Response) : Prop :=
  r.status = 0#2 ∧ r.consumed = 4#3 ∧ r.frameSize ≤ 8065 ∧
  r.sampleRate ≠ 0 ∧ (∃ sri version : BitVec 2, r.sampleRate = (lookupSampleRate t sri version).toNat) ∧
  (r.sampleCount = 384 ∨ r.sampleCount = 576 ∨ r.sampleCount = 1152) ∧ r.diag = 0#4

/-- The response of status NEED_MORE (R23, R185). -/
def Response.IsNeedMore (r : Response) : Prop :=
  r.status = 1#2 ∧ r.consumed = 0#3 ∧ r.frameSize = 0 ∧ r.sampleRate = 0 ∧ r.layout = 0#1 ∧ r.sampleCount = 0 ∧
  r.diag = 1#4 ∧ r.header = 0#32

/-- A response of status INVALID: zeroed derived fields, a diagnostic in 2..9 (R183, R202; 10 is never produced, R123). -/
def Response.IsInvalid (r : Response) : Prop :=
  r.status = 2#2 ∧ r.consumed = 0#3 ∧ r.frameSize = 0 ∧ r.sampleRate = 0 ∧ r.layout = 0#1 ∧ r.sampleCount = 0 ∧
  2 ≤ r.diag.toNat ∧ r.diag.toNat ≤ 9

/-- The response is one of the three outcomes with legal fields (R200). -/
def Response.Legal (t : Tables) (r : Response) : Prop := r.IsOk t ∨ r.IsNeedMore ∨ r.IsInvalid

/-- The invariant: the tables meet R8, the widths are wide enough for them, and a response that waits in RSP is legal. While
`rsp_valid = 0` the payload may be anything (R25). -/
def State.Inv (s : State) : Prop := tablesOk s.rom = true ∧ s.widths.ok = true ∧ (s.rspValid = true → s.rsp.Legal s.rom)

/-- Each number in RSP's payload is one that its output port can carry (R7, R101), whether a response waits or not. -/
def State.PortsFit (s : State) : Prop :=
  s.rsp.frameSize < 2 ^ s.widths.fsW ∧ s.rsp.sampleRate < 2 ^ s.widths.srW ∧ s.rsp.sampleCount < 2 ^ s.widths.scW

/-- The response that the edge's take delivers to the host, if it is one (R103). -/
def takenNow (s : State) : List Response := if takes s (nextPorts s) then [s.rsp] else []

/-- The request that the edge accepts, if it does (R103). -/
def acceptedNow (s : State) : List Request := if accepts s (nextPorts s) then [portRequest s.widths (nextPorts s)] else []

/-- The response waiting in RSP, if any (R24). -/
def pendingRsp (s : State) : List Response := if s.rspValid then [s.rsp] else []

/-- What `n` edges from `s` do: the requests accepted and the responses taken, each oldest first, and the state after them;
`none` if a step stops. -/
def traffic : Nat → State → Option (List Request × List Response × State)
  | 0, s => some ([], [], s)
  | n + 1, s =>
    match step s with
    | .next s' =>
      (traffic n s').map fun (reqs, rsps, t) => (acceptedNow s ++ reqs, takenNow s ++ rsps, t)
    | .fault _ => none
    | .refused _ => none

/-- No listed input asserts reset. -/
def noReset (s : State) : Bool := s.inputs.all (·.rstN)

end Sys2Proof.Machine
end

