-- ==== Sys2Proof/Certificates/Slice0/Obligations.lean ====
section
/-! DEFINITION. The statements for the provers. A response is written ⟨status, consumed, frame size, sample rate, layout,
sample count, diag, header⟩, with the codes of R200, R202 and R181 as numerals. Where a statement's title speaks of tables
that meet R8 and widths that fit, its premises are `tablesOk` (R8) and `Widths.ok` (R165, R166). -/

open Sys2Proof Sys2Proof.Machine

/-! ### Encoding -/

/-- R121: each field is the slice of the word that the parser's listing gives, as arithmetic on the word's value. -/
def Obligations.ParserReadsTheListedSlices : Prop :=
  ∀ w : Word,
    (parseHeader w).sync.toNat = w.toNat / 2 ^ 21 ∧
    (parseHeader w).version.toNat = w.toNat / 2 ^ 19 % 4 ∧
    (parseHeader w).layer.toNat = w.toNat / 2 ^ 17 % 4 ∧
    (parseHeader w).prot.toNat = w.toNat / 2 ^ 16 % 2 ∧
    (parseHeader w).bri.toNat = w.toNat / 2 ^ 12 % 16 ∧
    (parseHeader w).sri.toNat = w.toNat / 2 ^ 10 % 4 ∧
    (parseHeader w).padding.toNat = w.toNat / 2 ^ 9 % 2 ∧
    (parseHeader w).priv.toNat = w.toNat / 2 ^ 8 % 2 ∧
    (parseHeader w).cm.toNat = w.toNat / 2 ^ 6 % 4 ∧
    (parseHeader w).other.toNat = w.toNat % 64

/-- 41_parse_validate.md section 2: ten sequential MSB-first reads of the four bytes give the parser's fields, and none of
them runs out of bits. -/
def Obligations.SequentialReadsAgreeWithSlices : Prop :=
  ∀ b0 b1 b2 b3 : Byte, readHeader [b0, b1, b2, b3] = some (parseHeader (windowWord b0 b1 b2 b3))

/-- R41, R42: the window's bytes on `req_data`, `B0` most significant. -/
def Obligations.WindowIsMostSignificantByteFirst : Prop :=
  (∀ b0 b1 b2 b3 : Byte,
    (windowWord b0 b1 b2 b3).toNat = b0.toNat * 2 ^ 24 + b1.toNat * 2 ^ 16 + b2.toNat * 2 ^ 8 + b3.toNat) ∧
  (∀ data : Word,
    (byte0 data).toNat = data.toNat / 2 ^ 24 ∧ (byte1 data).toNat = data.toNat / 2 ^ 16 % 256 ∧
    (byte2 data).toNat = data.toNat / 2 ^ 8 % 256 ∧ (byte3 data).toNat = data.toNat % 256 ∧
    windowWord (byte0 data) (byte1 data) (byte2 data) (byte3 data) = data)

/-- Decode and encode agree: the request of a well-formed map row decodes to that row with every operand. (That a HDR32
row's request carries `req_len = 4` is the model's choice, log 9.) -/
def Obligations.DecodeOfEncodeIsTheRow : Prop :=
  ∀ i : Instr, i.isMapRow = true → i.wf = true → decode (encode i) = some i

/-- The other direction: what the decoder reads is a well-formed map row whose encoding presents the same data, and the same
length below 4; any length of 4 or more is written 4 (the model's choice, log 9). -/
def Obligations.EncodeOfDecodeIsTheRequest : Prop :=
  ∀ (r : Request) (i : Instr), decode r = some i →
    i.isMapRow = true ∧ i.wf = true ∧ encode i = ⟨if r.len < 4 then r.len else 4, r.data⟩

/-- The decode map, read by fields: the first failing check decides, and the nine version and layer pairs take what is left.
The map itself compares masks (R84). -/
def Obligations.DecodeMapSelectsByFields : Prop :=
  ∀ (len : Nat) (w : Word),
    decode ⟨len, w⟩ = some (
      if len < 4 then .needMore len w
      else if w.toNat / 2 ^ 21 ≠ 0x7FF then .hdrSyncErr (parseHeader w)
      else if w.toNat / 2 ^ 19 % 4 = 1 then .hdrVerRes (parseHeader w)
      else if w.toNat / 2 ^ 17 % 4 = 0 then .hdrLayerRes (parseHeader w)
      else if w.toNat / 2 ^ 12 % 16 = 0 then .hdrBriFree (parseHeader w)
      else if w.toNat / 2 ^ 12 % 16 = 15 then .hdrBriBad (parseHeader w)
      else if w.toNat / 2 ^ 10 % 4 = 3 then .hdrSriRes (parseHeader w)
      else if w.toNat / 2 ^ 19 % 4 = 3 then
        if w.toNat / 2 ^ 17 % 4 = 3 then .hdrM1L1 (parseHeader w)
        else if w.toNat / 2 ^ 17 % 4 = 2 then .hdrM1L2 (parseHeader w)
        else .hdrM1L3 (parseHeader w)
      else if w.toNat / 2 ^ 19 % 4 = 2 then
        if w.toNat / 2 ^ 17 % 4 = 3 then .hdrM2L1 (parseHeader w)
        else if w.toNat / 2 ^ 17 % 4 = 2 then .hdrM2L2 (parseHeader w)
        else .hdrM2L3 (parseHeader w)
      else
        if w.toNat / 2 ^ 17 % 4 = 3 then .hdrM25L1 (parseHeader w)
        else if w.toNat / 2 ^ 17 % 4 = 2 then .hdrM25L2 (parseHeader w)
        else .hdrM25L3 (parseHeader w))

/-- Sanity: words written bit by bit from the field positions of R65 decode to their rows. The bits are
sync, version, layer, protection, bitrate_index, sample_rate_index, padding, private, channel_mode, other_flags. -/
def Obligations.WrittenOutWordsDecode : Prop :=
  decode ⟨3, 0xFFFB9064⟩ = some (.needMore 3 0xFFFB9064) ∧
  decode ⟨4, 0b01111111111110111001000001100100⟩ =
    some (.hdrSyncErr ⟨0x3FF, 3, 1, 1, 9, 0, 0, 0, 1, 0b100100⟩) ∧
  decode ⟨4, 0b11111111111110111001000001100100⟩ = some (.hdrM1L3 ⟨0x7FF, 3, 1, 1, 9, 0, 0, 0, 1, 0b100100⟩) ∧
  decode ⟨5, 0b11111111111111110001101000000000⟩ = some (.hdrM1L1 ⟨0x7FF, 3, 3, 1, 1, 2, 1, 0, 0, 0⟩) ∧
  decode ⟨4, 0b11111111111001011110100000000000⟩ = some (.hdrM25L2 ⟨0x7FF, 0, 2, 1, 14, 2, 0, 0, 0, 0⟩)

/-! ### DECODE -/

/-- R102: DECODE is the listing, step by step, for every request, over tables that meet R8 and widths that fit: the checks
in the order of R206, the literal Layer II polarity of R130, the exact natural-number sizes of R161 to R163, the results
of R182, R183 and R185. (Outside that constraint: DecodeChecksAreTheListingForEveryBuild.) -/
def Obligations.DecodeIsTheListing : Prop :=
  ∀ (len : Nat) (data : Word) (s : State), tablesOk s.rom = true → s.widths.ok = true →
    let h := parseHeader data
    let br := lookupBitrate s.rom h.bri (lookupColumn s.rom h.version h.layer)
    let sr := lookupSampleRate s.rom h.sri h.version
    let spf : Nat :=
      if h.layer = 0b11#2 then 384 else if h.layer = 0b10#2 then 1152 else if h.version = 0b11#2 then 1152 else 576
    let fs : Nat :=
      if h.layer = 0b11#2 then 4 * (12 * (br.toNat * 1000) / sr.toNat) + 4 * h.padding.toNat
      else spf / 8 * (br.toNat * 1000) / sr.toNat + h.padding.toNat
    let invalid (code : BitVec 4) : Response := ⟨2, 0, 0, 0, 0, 0, code, data⟩
    exec (.decode len data) s = .next { s with
      rspValid := true
      rsp :=
        if len < 4 then ⟨1, 0, 0, 0, 0, 0, 1, 0⟩
        else if h.sync ≠ 0x7FF#11 then invalid 2
        else if h.version = 0b01#2 then invalid 3
        else if h.layer = 0b00#2 then invalid 4
        else if h.bri = 0#4 ∨ h.bri = 15#4 then invalid 5
        else if h.sri = 0b11#2 then invalid 6
        else if h.layer = 0b10#2 ∧ lookupL2Allowed s.rom h.bri h.cm = 1#1 then invalid 7
        else if br = 0#9 then invalid 8
        else if sr = 0#16 then invalid 9
        else ⟨0, 4, fs, sr.toNat, if h.cm = 0b11#2 then 0 else 1, spf, 0, data⟩ }

/-- The decode map agrees with DECODE (R84 inside R102): whichever row a request decodes to, running that row does what
DECODE does with the request. (Rows as instructions of their own are the model's choice, log 8.) -/
def Obligations.MapRowsAgreeWithDecode : Prop :=
  ∀ (r : Request) (i : Instr) (s : State), decode r = some i → exec i s = exec (.decode r.len r.data) s

/-- R43: below four bytes the response is NEED_MORE whatever the data; R185 gives its fields. It holds of DECODE and of the
map row. -/
def Obligations.ShortRequestNeedsMore : Prop :=
  ∀ (len : Nat) (data : Word) (s : State), len < 4 →
    exec (.decode len data) s = .next { s with rspValid := true, rsp := ⟨1, 0, 0, 0, 0, 0, 1, 0x00000000⟩ } ∧
    exec (.needMore len data) s = .next { s with rspValid := true, rsp := ⟨1, 0, 0, 0, 0, 0, 1, 0x00000000⟩ }

/-- R44: every length of 4 or more gives the same response for the same data. -/
def Obligations.LengthBeyondFourHasNoEffect : Prop :=
  ∀ (len len' : Nat) (data : Word) (s : State), 4 ≤ len → 4 ≤ len' →
    exec (.decode len data) s = exec (.decode len' data) s

/-- Fields no step validates (41_parse_validate.md section 5): two windows that differ only in protection, private and
other_flags get responses that agree in everything but `rsp_header`. -/
def Obligations.InformationalFieldsDoNotMatter : Prop :=
  ∀ (len : Nat) (data data' : Word) (s : State), 4 ≤ len →
    { parseHeader data with prot := 0#1, priv := 0#1, other := 0#6 } =
      { parseHeader data' with prot := 0#1, priv := 0#1, other := 0#6 } →
    ∃ t t', exec (.decode len data) s = .next t ∧ exec (.decode len data') s = .next t' ∧
      { t.rsp with header := 0#32 } = { t'.rsp with header := 0#32 }

/-- Outside Layer II the channel mode changes only the layout and the header (43_frame_size.md section 3, R180): two windows
that differ only in channel mode get the same status, diagnostic, frame size, sample rate and sample count. -/
def Obligations.ChannelModeChangesOnlyLayout : Prop :=
  ∀ (len : Nat) (data data' : Word) (s : State), 4 ≤ len → (parseHeader data).layer ≠ 0b10#2 →
    { parseHeader data with cm := 0#2 } = { parseHeader data' with cm := 0#2 } →
    ∃ t t', exec (.decode len data) s = .next t ∧ exec (.decode len data') s = .next t' ∧
      { t.rsp with layout := 0#1, header := 0#32 } = { t'.rsp with layout := 0#1, header := 0#32 } ∧
      (t.rsp.status = 0#2 → t.rsp.layout = if (parseHeader data).cm = 0b11#2 then 0 else 1)

/-- R163: the same header with padding 1 gets a frame size larger by exactly one slot, 4 bytes for Layer I and 1 for
Layers II and III, over tables that meet R8 and widths that fit, so that the port holds the size. -/
def Obligations.PaddingAddsOneSlot : Prop :=
  ∀ (len : Nat) (data data' : Word) (s t : State), tablesOk s.rom = true → s.widths.ok = true →
    parseHeader data' = { parseHeader data with padding := 1#1 } → (parseHeader data).padding = 0#1 →
    exec (.decode len data) s = .next t → t.rsp.status = 0#2 →
    ∃ t', exec (.decode len data') s = .next t' ∧ t'.rsp.status = 0#2 ∧
      t'.rsp.frameSize = t.rsp.frameSize + (if (parseHeader data).layer = 0b11#2 then 4 else 1)

/-! ### The rows of the decode map -/

/-- R183: each rejecting row answers INVALID with its diagnostic, zeroed derived fields and the raw header word. For a header
that the row's check does not reject, or that an earlier check rejects, it does so by the model's choice (log 18). -/
def Obligations.RejectRowsAnswerInvalid : Prop :=
  ∀ (h : Header) (s : State),
    let invalid (code : BitVec 4) : Outcome :=
      .next { s with rspValid := true, rsp := ⟨2, 0, 0, 0, 0, 0, code, headerWord h⟩ }
    exec (.hdrSyncErr h) s = invalid 2 ∧ exec (.hdrVerRes h) s = invalid 3 ∧ exec (.hdrLayerRes h) s = invalid 4 ∧
    exec (.hdrBriFree h) s = invalid 5 ∧ exec (.hdrBriBad h) s = invalid 5 ∧ exec (.hdrSriRes h) s = invalid 6

/-- R161, R182: the three Layer I rows, where both lookups are nonzero, over tables that meet R8 and widths that fit: the
exact size with 4-byte slots, 384 samples. For a header whose own codes differ from the row's, the version and the layer
are the row's, which is the model's choice (log 18). -/
def Obligations.LayerIRowsAnswerOk : Prop :=
  ∀ (h : Header) (s : State), tablesOk s.rom = true → s.widths.ok = true →
    ∀ p ∈ [(Instr.hdrM1L1 h, 0b11#2), (Instr.hdrM2L1 h, 0b10#2), (Instr.hdrM25L1 h, 0b00#2)],
      let br := lookupBitrate s.rom h.bri (lookupColumn s.rom p.2 0b11#2)
      let sr := lookupSampleRate s.rom h.sri p.2
      br ≠ 0#9 → sr ≠ 0#16 →
      exec p.1 s = .next { s with
        rspValid := true
        rsp := ⟨0, 4, 4 * (12 * (br.toNat * 1000) / sr.toNat) + 4 * h.padding.toNat, sr.toNat,
          if h.cm = 0b11#2 then 0 else 1, 384, 0, headerWord h⟩ }

/-- R162, R182: the three Layer II rows, where the combination cell is 0 and both lookups are nonzero, over tables that
meet R8 and widths that fit: 1152 samples for every version, the exact size with byte slots. For a header whose own codes
differ from the row's, the version and the layer are the row's, which is the model's choice (log 18). -/
def Obligations.LayerIIRowsAnswerOk : Prop :=
  ∀ (h : Header) (s : State), tablesOk s.rom = true → s.widths.ok = true → lookupL2Allowed s.rom h.bri h.cm = 0#1 →
    ∀ p ∈ [(Instr.hdrM1L2 h, 0b11#2), (Instr.hdrM2L2 h, 0b10#2), (Instr.hdrM25L2 h, 0b00#2)],
      let br := lookupBitrate s.rom h.bri (lookupColumn s.rom p.2 0b10#2)
      let sr := lookupSampleRate s.rom h.sri p.2
      br ≠ 0#9 → sr ≠ 0#16 →
      exec p.1 s = .next { s with
        rspValid := true
        rsp := ⟨0, 4, 144 * (br.toNat * 1000) / sr.toNat + h.padding.toNat, sr.toNat,
          if h.cm = 0b11#2 then 0 else 1, 1152, 0, headerWord h⟩ }

/-- R162, R182: the three Layer III rows, where both lookups are nonzero, over tables that meet R8 and widths that fit:
1152 samples for MPEG1 and 576 for MPEG2 and MPEG2.5 (R148), and so a factor of 144 or 72. For a header whose own codes
differ from the row's, the version and the layer are the row's, which is the model's choice (log 18). -/
def Obligations.LayerIIIRowsAnswerOk : Prop :=
  ∀ (h : Header) (s : State), tablesOk s.rom = true → s.widths.ok = true →
    ∀ p ∈ [(Instr.hdrM1L3 h, 0b11#2, 144, 1152), (Instr.hdrM2L3 h, 0b10#2, 72, 576),
        (Instr.hdrM25L3 h, 0b00#2, 72, 576)],
      let br := lookupBitrate s.rom h.bri (lookupColumn s.rom p.2.1 0b01#2)
      let sr := lookupSampleRate s.rom h.sri p.2.1
      br ≠ 0#9 → sr ≠ 0#16 →
      exec p.1 s = .next { s with
        rspValid := true
        rsp := ⟨0, 4, p.2.2.1 * (br.toNat * 1000) / sr.toNat + h.padding.toNat, sr.toNat,
          if h.cm = 0b11#2 then 0 else 1, p.2.2.2, 0, headerWord h⟩ }

/-- R130, literal polarity: a Layer II row whose combination cell is 1 answers INVALID diag 7; and no row of Layer I or III
consults the matrix, so that changing it changes no response of theirs. For a header whose own codes differ from the row's,
or that fails an earlier check, the layer is the row's, which is the model's choice (log 18). -/
def Obligations.LayerIICombinationRejects : Prop :=
  (∀ (h : Header) (s : State), lookupL2Allowed s.rom h.bri h.cm = 1#1 →
    ∀ i ∈ [Instr.hdrM1L2 h, Instr.hdrM2L2 h, Instr.hdrM25L2 h],
      exec i s = .next { s with rspValid := true, rsp := ⟨2, 0, 0, 0, 0, 0, 7, headerWord h⟩ }) ∧
  (∀ (h : Header) (s : State) (cells : Vector (Vector (BitVec 1) 4) 17),
    ∀ i ∈ [Instr.hdrM1L1 h, Instr.hdrM2L1 h, Instr.hdrM25L1 h, Instr.hdrM1L3 h, Instr.hdrM2L3 h, Instr.hdrM25L3 h],
      ∃ t t', exec i s = .next t ∧ exec i { s with rom := { s.rom with l2Allowed := cells } } = .next t' ∧
        t.rsp = t'.rsp)

/-- R143, R145: the nine order-7 rows with a zero lookup (and, for Layer II, a combination cell of 0): a zero bitrate
answers INVALID diag 8, else a zero sample rate answers INVALID diag 9. For a header whose own codes differ from the
row's, the lookups use the row's, which is the model's choice (log 18). -/
def Obligations.ZeroEntriesReject : Prop :=
  ∀ (h : Header) (s : State),
    ∀ p ∈ [(Instr.hdrM1L1 h, 0b11#2, 0b11#2), (Instr.hdrM1L2 h, 0b11#2, 0b10#2),
        (Instr.hdrM1L3 h, 0b11#2, 0b01#2), (Instr.hdrM2L1 h, 0b10#2, 0b11#2), (Instr.hdrM2L2 h, 0b10#2, 0b10#2),
        (Instr.hdrM2L3 h, 0b10#2, 0b01#2), (Instr.hdrM25L1 h, 0b00#2, 0b11#2), (Instr.hdrM25L2 h, 0b00#2, 0b10#2),
        (Instr.hdrM25L3 h, 0b00#2, 0b01#2)],
      let br := lookupBitrate s.rom h.bri (lookupColumn s.rom p.2.1 p.2.2)
      let sr := lookupSampleRate s.rom h.sri p.2.1
      (p.2.2 = 0b10#2 → lookupL2Allowed s.rom h.bri h.cm = 0#1) →
      (br = 0#9 → exec p.1 s = .next { s with rspValid := true, rsp := ⟨2, 0, 0, 0, 0, 0, 8, headerWord h⟩ }) ∧
      (br ≠ 0#9 → sr = 0#16 → exec p.1 s = .next { s with rspValid := true, rsp := ⟨2, 0, 0, 0, 0, 0, 9, headerWord h⟩ })

/-- With the default tables (log 6) no request reaches a zero entry: diagnostics 8 and 9 are unreachable (42_lookup.md,
corner cases of the two zero checks). -/
def Obligations.DefaultTablesReachNoZeroEntry : Prop :=
  ∀ (len : Nat) (data : Word) (s t : State), s.rom = defaultTables → exec (.decode len data) s = .next t →
    t.rsp.diag ≠ 8#4 ∧ t.rsp.diag ≠ 9#4

/-- With the default tables (log 6), the Layer II pairs that DECODE accepts (41_parse_validate.md section 4, the table after
the literal polarity): bri 1, 2, 3, 5 with any mode but Stereo, and bri 11 to 14 with Stereo; the same for every version. -/
def Obligations.DefaultLayerIIPairsAccepted : Prop :=
  ∀ (len : Nat) (data : Word) (s : State), s.rom = defaultTables → 4 ≤ len →
    (parseHeader data).accepted = true → (parseHeader data).layer = 0b10#2 →
    ∃ t, exec (.decode len data) s = .next t ∧
      let bri := (parseHeader data).bri.toNat
      let stereo := (parseHeader data).cm = 0b00#2
      (if ((bri = 1 ∨ bri = 2 ∨ bri = 3 ∨ bri = 5) ∧ ¬ stereo) ∨ (11 ≤ bri ∧ stereo) then t.rsp.status = 0#2
       else t.rsp.status = 2#2 ∧ t.rsp.diag = 7#4)

/-! ### Every meaning -/

/-- Completion and frame of all 17 instructions (R100 "State written"): each answers a next state in which RSP holds a
response, and the tables and the widths are unchanged, as are the model's own fields. -/
def Obligations.EveryInstructionWritesOnlyRsp : Prop :=
  ∀ (i : Instr) (s : State), ∃ t, exec i s = .next t ∧
    t.rspValid = true ∧ t.rom = s.rom ∧ t.widths = s.widths ∧ t.inputs = s.inputs ∧ t.freeCount = s.freeCount

/-- R108: every instruction's response consumes 4 on OK and 0 on NEED_MORE and INVALID, and its status is one of the
three. -/
def Obligations.ConsumedIsFourOnlyOnOk : Prop :=
  ∀ (i : Instr) (s : State), ∃ t, exec i s = .next t ∧
    ((t.rsp.status = 0#2 ∧ t.rsp.consumed = 4#3) ∨ (t.rsp.status = 1#2 ∧ t.rsp.consumed = 0#3) ∨
      (t.rsp.status = 2#2 ∧ t.rsp.consumed = 0#3))

/-- What an instruction answers does not depend on what RSP held before (R201 "no effect on later requests"). -/
def Obligations.ResponseIgnoresEarlierResponse : Prop :=
  ∀ (i : Instr) (s : State) (valid : Bool) (r : Response),
    exec i { s with rspValid := valid, rsp := r } = exec i s

/-! ### The tables and the datapath -/

/-- 43_frame_size.md section 3, over tables that meet R8 (bitrate at most 448, sample rate at least 8000): the products stay
below 2^26, the datapath is exact at every width of at least 26 bits, and the size is at most 8065. -/
def Obligations.FrameSizeDoesNotOverflow : Prop :=
  ∀ (ws : Widths) (br : BitVec 9) (sr : BitVec 16) (spf : Nat) (padding : BitVec 1),
    26 ≤ ws.arithW → br.toNat ≤ 448 → 8000 ≤ sr.toNat → (spf = 384 ∨ spf = 576 ∨ spf = 1152) →
    12 * (br.toNat * 1000) ≤ 5376000 ∧ spf / 8 * (br.toNat * 1000) ≤ 64512000 ∧ 64512000 < 2 ^ 26 ∧
    frameSizeL1 ws br sr padding = 4 * (12 * (br.toNat * 1000) / sr.toNat) + 4 * padding.toNat ∧
    frameSizeL23 ws spf br sr padding = spf / 8 * (br.toNat * 1000) / sr.toNat + padding.toNat ∧
    frameSizeL1 ws br sr padding ≤ 8065 ∧ frameSizeL23 ws spf br sr padding ≤ 8065

/-- Column 5 of the default map (log 6) stands exactly at the reserved version and the reserved layer; and with any tables
that meet R8, a header that passes steps 3 and 4 and reaches column 5 is rejected with diag 8 (42_lookup.md section 1). -/
def Obligations.ReservedColumnRejects : Prop :=
  (∀ version layer : BitVec 2, lookupColumn defaultTables version layer = 5 ↔ version = 0b01#2 ∨ layer = 0b00#2) ∧
  (∀ (len : Nat) (data : Word) (s : State), tablesOk s.rom = true → 4 ≤ len →
    let h := parseHeader data
    h.accepted = true → (h.layer = 0b10#2 → lookupL2Allowed s.rom h.bri h.cm = 0#1) →
    lookupColumn s.rom h.version h.layer = 5 →
    exec (.decode len data) s = .next { s with rspValid := true, rsp := ⟨2, 0, 0, 0, 0, 0, 8, data⟩ })

/-! ### The clocked shell -/

/-- R104: `req_ready` is that function of `rst_n`, `rsp_valid` and `rsp_ready`, and of no other input. -/
def Obligations.ReadyIsTheListedFunction : Prop :=
  (∀ (s : State) (p : PortsIn),
    (portsOut s p).reqReady = true ↔ p.rstN = true ∧ (s.rspValid = false ∨ p.rspReady = true)) ∧
  (∀ (s : State) (p : PortsIn) (valid : Bool) (len : Nat) (data : Word),
    (portsOut s { p with reqValid := valid, reqLen := len, reqData := data }).reqReady = (portsOut s p).reqReady)

/-- A step runs the decoded instruction: at an edge that accepts a request, step is exec of the row it decodes to, on the
state with the edge's inputs past. (Running the map row is the model's choice, log 8; so is what the port carries of a
listed length wider than `LEN_W`, log 12.) -/
def Obligations.StepRunsTheDecodedInstruction : Prop :=
  ∀ (s : State) (i : Instr), accepts s (nextPorts s) = true → decode (portRequest s.widths (nextPorts s)) = some i →
    step s = exec i { s with inputs := s.inputs.tail }

/-- R105: the update of RSP at each rising edge, its four cases in order: reset, accept, take, no change. `req_len` is a
number that its port of `LEN_W` bits can carry (R101). -/
def Obligations.EdgeUpdatesRspAsListed : Prop :=
  ∀ s : State,
    let p := nextPorts s
    let s' : State := { s with inputs := s.inputs.tail }
    (p.rstN = false → ∃ t, step s = .next t ∧ t.rspValid = false ∧ t.rom = s.rom ∧ t.widths = s.widths ∧
      t.inputs = s.inputs.tail) ∧
    (p.rstN = true → p.reqValid = true → (s.rspValid = false ∨ p.rspReady = true) → p.reqLen < 2 ^ s.widths.lenW →
      step s = exec (.decode p.reqLen p.reqData) s') ∧
    (p.rstN = true → p.reqValid = false → s.rspValid = true → p.rspReady = true →
      step s = .next { s' with rspValid := false }) ∧
    (p.rstN = true → (p.reqValid = false ∨ (s.rspValid = true ∧ p.rspReady = false)) →
      (s.rspValid = false ∨ p.rspReady = false) → step s = .next s')

/-- R230: at an edge with `rst_n = 0`, `rsp_valid` becomes 0 and no request is accepted, whatever else the host drives; the
tables and the widths stay. -/
def Obligations.ResetEdgeEmptiesRsp : Prop :=
  ∀ s : State, (nextPorts s).rstN = false →
    (portsOut s (nextPorts s)).reqReady = false ∧ accepts s (nextPorts s) = false ∧
    ∃ t, step s = .next t ∧ t.rspValid = false ∧ observedRsp t = none ∧ t.rom = s.rom ∧ t.widths = s.widths

/-- R231: a request can be accepted at the first edge after a reset edge at which `rst_n = 1` and `req_valid = 1`. From
any state at a reset edge, and through any `n` edges after it that are reset edges or present no request, nothing is
accepted and nothing is taken, and the next edge with `rst_n = 1` and `req_valid = 1` accepts: there is no wait cycle.
Edges past the end of the listed inputs are those of the idle host, which is the model's choice (log 2). -/
def Obligations.FirstRequestAfterResetIsAccepted : Prop :=
  ∀ (n : Nat) (s : State), (nextPorts s).rstN = false →
    (∀ p ∈ s.inputs.tail.take n, p.rstN = false ∨ p.reqValid = false) →
    ∃ t, traffic (n + 1) s = some ([], [], t) ∧ t.inputs = s.inputs.drop (n + 1) ∧
      ((nextPorts t).rstN = true → (nextPorts t).reqValid = true → accepts t (nextPorts t) = true)

/-- R24: `rsp_valid` after an edge is 1 exactly when the edge accepted a request, or RSP was full and the host did not take
it; a reset edge clears it (R230). -/
def Obligations.OccupancyFollowsAcceptAndTake : Prop :=
  ∀ s t : State, step s = .next t →
    (t.rspValid = true ↔ accepts s (nextPorts s) = true ∨
      ((nextPorts s).rstN = true ∧ s.rspValid = true ∧ takes s (nextPorts s) = false))

/-- While RSP is full, `rst_n = 1` and the host does not take, every output holds (40_request.md section 4, the stall
case). -/
def Obligations.StalledResponseHolds : Prop :=
  ∀ s : State, (nextPorts s).rstN = true → s.rspValid = true → (nextPorts s).rspReady = false →
    ∃ t, step s = .next t ∧ t.rspValid = true ∧ t.rsp = s.rsp ∧ t.rom = s.rom ∧ t.widths = s.widths ∧ t.inputs = s.inputs.tail

/-- A waiting response is lost only when the host takes it at that edge or a reset discards it (70_reset_and_hazards.md
section 3). -/
def Obligations.ResponseLostOnlyByTakeOrReset : Prop :=
  ∀ s t : State, s.rspValid = true → step s = .next t → observedRsp t ≠ observedRsp s →
    takes s (nextPorts s) = true ∨ (nextPorts s).rstN = false

/-- R205: no step stops, and every accepted request yields a response: the one DECODE gives, for a `req_len` that its port
of `LEN_W` bits can carry (R101). -/
def Obligations.StepNeverStops : Prop :=
  ∀ s : State, ∃ t, step s = .next t ∧
    (accepts s (nextPorts s) = true → t.rspValid = true ∧
      ((nextPorts s).reqLen < 2 ^ s.widths.lenW →
        observedRsp t = some (decodeFunction s.rom s.widths (nextPorts s).reqLen (nextPorts s).reqData)))

/-- No step writes a table (R27) or changes a width parameter (R26), whatever the state and the inputs. -/
def Obligations.StepKeepsTables : Prop :=
  ∀ s t : State, step s = .next t → t.rom = s.rom ∧ t.widths = s.widths

/-- R46: presenting the same request again gives the same response, whatever state the block was in between. -/
def Obligations.SameRequestSameResponse : Prop :=
  ∀ s s' : State, s.rom = s'.rom → s.widths = s'.widths →
    accepts s (nextPorts s) = true → accepts s' (nextPorts s') = true →
    (nextPorts s).reqLen = (nextPorts s').reqLen → (nextPorts s).reqData = (nextPorts s').reqData →
    ∃ t t', step s = .next t ∧ step s' = .next t' ∧ observedRsp t = observedRsp t' ∧ observedRsp t ≠ none

/-- The payload while `rsp_valid = 0` is never observed later (10_state.md section 2): two states that differ only in it
answer the same observation at the next edge, and in both the payload is then still unobservable or the same. So no
observation rests on the payload of reset (log 3). -/
def Obligations.EmptyPayloadIsUnobservable : Prop :=
  ∀ (s t t' : State) (r : Response), s.rspValid = false → step s = .next t → step { s with rsp := r } = .next t' →
    observedRsp t = observedRsp t' ∧ t.rspValid = t'.rspValid ∧ t.rom = t'.rom ∧ t.widths = t'.widths ∧ t.inputs = t'.inputs ∧
      t.freeCount = t'.freeCount

/-- The invariant is kept: from every state whose tables meet R8, whose widths fit and whose waiting response is legal (R23),
every step answers such a state. -/
def Obligations.StepKeepsInvariant : Prop :=
  ∀ s t : State, s.Inv → step s = .next t → t.Inv

/-- The state after reset meets the two invariants: RSP is empty, the default tables (log 6) meet R8, the default widths fit
them, and the payload the model gives RSP (log 3) fits its ports. -/
def Obligations.ResetMeetsInvariant : Prop :=
  State.reset.Inv ∧ State.reset.PortsFit ∧ State.reset.rspValid = false

/-- With the default tables (log 6) and widths that fit, a waiting OK response always has a frame size in 24..2881
(43_frame_size.md section 3): every step keeps it. -/
def Obligations.StepKeepsDefaultSizeRange : Prop :=
  ∀ s t : State, s.rom = defaultTables → s.widths.ok = true →
    (s.rspValid = true → s.rsp.status = 0#2 → 24 ≤ s.rsp.frameSize ∧ s.rsp.frameSize ≤ 2881) →
    step s = .next t →
    t.rom = defaultTables ∧ t.widths.ok = true ∧
      (t.rspValid = true → t.rsp.status = 0#2 → 24 ≤ t.rsp.frameSize ∧ t.rsp.frameSize ≤ 2881)

/-- R50: responses leave the block in the order their requests were accepted, over any number of edges of any host that does
not reset: what was taken, then what still waits, is what waited at the start, then DECODE of each request accepted, in
order; and at most one response is held. Edges past the end of the listed inputs are those of the idle host, which is the
model's choice (log 2). -/
def Obligations.ResponsesLeaveInOrder : Prop :=
  ∀ (n : Nat) (s : State), noReset s = true →
    ∃ reqs rsps t, traffic n s = some (reqs, rsps, t) ∧
      rsps ++ pendingRsp t = pendingRsp s ++ reqs.map (fun r => decodeFunction s.rom s.widths r.len r.data) ∧
      (pendingRsp t).length ≤ 1

/-- The host's way of placing an instruction (log 10): with a table word placed whose length fits `req_len`, the very next
step accepts it, and does what the instruction the decoder reads from that word does. -/
def Obligations.PlacedWordRunsNext : Prop :=
  ∀ (s : State) (nbits w : Nat) (i : Instr), (tableRequest nbits w).len < 2 ^ s.widths.lenW →
    decodeTableWord nbits w = some i → step (s.withFetchWord nbits w) = exec i s

/-! ### The parameters of the build (R7) -/

/-- For every table contents and every width, also outside R8 (R149): DECODE completes and writes RSP only, and its status,
consumed, layout, diagnostic and header are the listing's; on NEED_MORE and INVALID its three numbers are 0. Only the three
numbers of an OK response depend on what fits (log 13). -/
def Obligations.DecodeChecksAreTheListingForEveryBuild : Prop :=
  ∀ (len : Nat) (data : Word) (s : State),
    let h := parseHeader data
    let invalid (code : BitVec 4) : Response := ⟨2, 0, 0, 0, 0, 0, code, data⟩
    ∃ fs sr spf : Nat, exec (.decode len data) s = .next { s with
      rspValid := true
      rsp :=
        if len < 4 then ⟨1, 0, 0, 0, 0, 0, 1, 0⟩
        else if h.sync ≠ 0x7FF#11 then invalid 2
        else if h.version = 0b01#2 then invalid 3
        else if h.layer = 0b00#2 then invalid 4
        else if h.bri = 0#4 ∨ h.bri = 15#4 then invalid 5
        else if h.sri = 0b11#2 then invalid 6
        else if h.layer = 0b10#2 ∧ lookupL2Allowed s.rom h.bri h.cm = 1#1 then invalid 7
        else if lookupBitrate s.rom h.bri (lookupColumn s.rom h.version h.layer) = 0#9 then invalid 8
        else if lookupSampleRate s.rom h.sri h.version = 0#16 then invalid 9
        else ⟨0, 4, fs, sr, if h.cm = 0b11#2 then 0 else 1, spf, 0, data⟩ }

/-- R7, R166: over tables that meet R8, the width parameters do not show in any response: in two builds with the same tables
and any two choices of widths that fit, every instruction answers the same response. -/
def Obligations.FittingWidthsGiveTheSameResponse : Prop :=
  ∀ (i : Instr) (s : State) (ws : Widths), tablesOk s.rom = true → s.widths.ok = true → ws.ok = true →
    ∃ r : Response, exec i s = .next { s with rspValid := true, rsp := r } ∧
      exec i { s with widths := ws } = .next { s with widths := ws, rspValid := true, rsp := r }

/-- In every build, whatever its tables and widths, RSP's three numbers stay within their ports' `FS_W`, `SR_W` and `SC_W`
bits (R7, R101), whether a response waits or not: every step keeps it. -/
def Obligations.StepKeepsPortsFit : Prop :=
  ∀ s t : State, s.PortsFit → step s = .next t → t.PortsFit

/-- R7 `LEN_W`: at every width of `req_len` and for every number the host would present, an accepted request whose length
on the port is below 4 answers NEED_MORE, and every other answers what length 4 does. (A number wider than the port is cut
to its low `LEN_W` bits, which is the model's choice, log 12.) -/
def Obligations.LengthActsThroughItsPort : Prop :=
  ∀ s : State, accepts s (nextPorts s) = true →
    ∃ t, step s = .next t ∧
      observedRsp t = some (
        if (nextPorts s).reqLen % 2 ^ s.widths.lenW < 4 then ⟨1, 0, 0, 0, 0, 0, 1, 0⟩
        else decodeFunction s.rom s.widths 4 (nextPorts s).reqData)
end

