-- ==== Sys2Proof/Laws/FrameSize.lean ====
section
/-! SUPPORT. When a value fits its width, the ports and the frame-size calculator carry it exactly (R160, R166); and what they
carry always fits. -/

namespace Sys2Proof

/-- What wide enough widths are (R165, R166). -/
theorem Widths.ok_iff (ws : Widths) : ws.ok = true ↔ 26 ≤ ws.arithW ∧ 13 ≤ ws.fsW ∧ 16 ≤ ws.srW ∧ 11 ≤ ws.scW := by
  simp [Widths.ok, and_assoc]

namespace Machine

@[simp] theorem narrow_of_lt {width v : Nat} (h : v < 2 ^ width) : narrow width v = v := by
  simp [narrow, h, Nat.mod_eq_of_lt]

theorem narrow_lt (width v : Nat) : narrow width v < 2 ^ width := Nat.mod_lt _ (Nat.two_pow_pos width)

/-- A value below `2 ^ k` goes through a port of at least `k` bits. -/
theorem narrow_of_le {width v : Nat} (k : Nat) (hk : k ≤ width) (h : v < 2 ^ k) : narrow width v = v :=
  narrow_of_lt (h.trans_le (Nat.pow_le_pow_right (by decide) hk))

theorem held_of_fits {ws : Widths} {values : List Nat} {v : Nat} (h : ∀ x ∈ v :: values, x < 2 ^ ws.arithW) :
    held ws values v = v := by
  rw [List.forall_mem_cons] at h
  rw [held, if_pos (by simpa using h.2), Nat.add_zero, Nat.mod_eq_of_lt h.1]

/-- FS_L1 is exact where its product, its sample rate and its result fit the datapath (R161, R163). -/
theorem frameSizeL1_of_fits {ws : Widths} {br : BitVec 9} {sr : BitVec 16} {padding : BitVec 1}
    (hp : 12 * (br.toNat * 1000) < 2 ^ ws.arithW) (hs : sr.toNat < 2 ^ ws.arithW)
    (hf : 4 * (12 * (br.toNat * 1000) / sr.toNat) + 4 * padding.toNat < 2 ^ ws.arithW) :
    frameSizeL1 ws br sr padding = 4 * (12 * (br.toNat * 1000) / sr.toNat) + 4 * padding.toNat := by
  refine held_of_fits ?_
  simp only [bitsPerSecond, List.forall_mem_cons, List.not_mem_nil, false_imp_iff, implies_true, and_true]
  exact ⟨hf, by omega, hp, hs, hf⟩

/-- FS_L23 is exact where its operands, its product and its result fit the datapath (R162, R163). -/
theorem frameSizeL23_of_fits {ws : Widths} {spf : Nat} {br : BitVec 9} {sr : BitVec 16} {padding : BitVec 1}
    (hn : spf < 2 ^ ws.arithW) (hb : br.toNat * 1000 < 2 ^ ws.arithW)
    (hp : spf / 8 * (br.toNat * 1000) < 2 ^ ws.arithW) (hs : sr.toNat < 2 ^ ws.arithW)
    (hf : spf / 8 * (br.toNat * 1000) / sr.toNat + padding.toNat < 2 ^ ws.arithW) :
    frameSizeL23 ws spf br sr padding = spf / 8 * (br.toNat * 1000) / sr.toNat + padding.toNat := by
  refine held_of_fits ?_
  simp only [bitsPerSecond, List.forall_mem_cons, List.not_mem_nil, false_imp_iff, implies_true, and_true]
  exact ⟨hf, hn, hb, hp, hs, hf⟩

end Machine
end Sys2Proof
end

