-- ==== Sys2Proof/Laws/Header.lean ====
section
/-! SUPPORT. The parser and the header word undo each other, and what a masked comparison says bit by bit. -/

namespace Sys2Proof

/-- A slice is `v` exactly when its bits are. -/
theorem extractLsb'_eq_iff {n : Nat} (w : BitVec n) (lo k : Nat) (v : BitVec k) :
    w.extractLsb' lo k = v ↔ ∀ i, i < k → w.getLsbD (lo + i) = v.getLsbD i := by
  constructor
  · intro e i hi
    simpa [hi] using congrArg (·.getLsbD i) e
  · intro e
    apply BitVec.eq_of_getLsbD_eq
    intro i hi
    simp [hi, e i hi]

/-- Every bit of the word belongs to exactly one field, in the parser's place (R121). -/
@[simp] theorem headerWord_parseHeader (w : Word) : headerWord (parseHeader w) = w := by
  apply BitVec.eq_of_getLsbD_eq
  intro i hi
  simp only [headerWord, parseHeader, BitVec.getLsbD_append, BitVec.getLsbD_extractLsb']
  interval_cases i <;> simp

@[simp] theorem parseHeader_headerWord (h : Header) : parseHeader (headerWord h) = h := by
  cases h
  simp only [parseHeader, Header.mk.injEq, extractLsb'_eq_iff]
  refine ⟨?_, ?_, ?_, ?_, ?_, ?_, ?_, ?_, ?_, ?_⟩ <;> intro i hi <;>
    simp only [headerWord, BitVec.getLsbD_append] <;>
    interval_cases i <;> simp

/-- Two headers with the same word are the same header. -/
theorem headerWord_injective {h h' : Header} (e : headerWord h = headerWord h') : h = h' := by
  rw [← parseHeader_headerWord h, e, parseHeader_headerWord]

/-- A masked comparison with a value inside the mask looks at the mask's bits only. -/
theorem and_eq_iff {n : Nat} (w m v : BitVec n) (hv : v &&& m = v) :
    w &&& m = v ↔ ∀ i, i < n → m.getLsbD i = true → w.getLsbD i = v.getLsbD i := by
  constructor
  · intro e i _ hm
    simpa [hm] using congrArg (·.getLsbD i) e
  · intro e
    apply BitVec.eq_of_getLsbD_eq
    intro i hi
    cases hm : m.getLsbD i
    · have := congrArg (·.getLsbD i) hv
      simp [hm] at this
      simp [hm, this]
    · simp [hm, e i hi hm]

/-- A comparison under two disjoint masks is both comparisons. -/
theorem and_or_eq_iff {n : Nat} (w m₁ m₂ v₁ v₂ : BitVec n) (h₁ : v₁ &&& m₁ = v₁) (h₂ : v₂ &&& m₂ = v₂)
    (hd : m₁ &&& m₂ = 0) : w &&& (m₁ ||| m₂) = v₁ ||| v₂ ↔ w &&& m₁ = v₁ ∧ w &&& m₂ = v₂ := by
  have hv : (v₁ ||| v₂) &&& (m₁ ||| m₂) = v₁ ||| v₂ := by
    apply BitVec.eq_of_getLsbD_eq
    intro i _
    have a := congrArg (·.getLsbD i) h₁
    have b := congrArg (·.getLsbD i) h₂
    simp only [BitVec.getLsbD_and, BitVec.getLsbD_or] at a b ⊢
    revert a b
    cases v₁.getLsbD i <;> cases v₂.getLsbD i <;> cases m₁.getLsbD i <;> cases m₂.getLsbD i <;> simp
  rw [and_eq_iff w _ _ hv, and_eq_iff w _ _ h₁, and_eq_iff w _ _ h₂, ← forall_and]
  refine forall_congr' fun i => ?_
  rw [← imp_and]
  refine imp_congr_right fun _ => ?_
  have a := congrArg (·.getLsbD i) h₁
  have b := congrArg (·.getLsbD i) h₂
  have c := congrArg (·.getLsbD i) hd
  simp only [BitVec.getLsbD_and, BitVec.getLsbD_or] at a b c ⊢
  revert a b c
  cases v₁.getLsbD i <;> cases v₂.getLsbD i <;> cases m₁.getLsbD i <;> cases m₂.getLsbD i <;> simp

/-- A comparison under the mask of one field `w[lo+k-1:lo]` is a comparison of the field. -/
theorem and_eq_iff_field {n : Nat} (w m v : BitVec n) (lo k : Nat) (f : BitVec k) (hk : lo + k ≤ n)
    (hm : m = ((BitVec.allOnes k).zeroExtend n) <<< lo) (hv : v = (f.zeroExtend n) <<< lo) :
    w &&& m = v ↔ w.extractLsb' lo k = f := by
  subst hm hv
  constructor
  · intro e
    rw [extractLsb'_eq_iff]
    intro i hi
    have := congrArg (·.getLsbD (lo + i)) e
    simpa [hi, show lo + i < n by omega] using this
  · intro e
    apply BitVec.eq_of_getLsbD_eq
    intro i hi
    subst e
    by_cases hlo : i < lo
    · simp [hlo]
    · by_cases hik : i - lo < k
      · simp [hi, hlo, hik, show lo + (i - lo) = i by omega]
      · simp [hi, hlo, hik]

end Sys2Proof
end

