-- ==== Sys2Proof/Laws/State.lean ====
section
/-! SUPPORT. What each update of State leaves in each field: true by rfl, so that no later proof unfolds a record update. -/

namespace Sys2Proof.Machine

@[simp] theorem writeRsp_rspValid (r : Response) (s : State) : (writeRsp r s).rspValid = true := rfl
@[simp] theorem writeRsp_rsp (r : Response) (s : State) : (writeRsp r s).rsp = r := rfl
@[simp] theorem writeRsp_rom (r : Response) (s : State) : (writeRsp r s).rom = s.rom := rfl
@[simp] theorem writeRsp_widths (r : Response) (s : State) : (writeRsp r s).widths = s.widths := rfl
@[simp] theorem writeRsp_inputs (r : Response) (s : State) : (writeRsp r s).inputs = s.inputs := rfl
@[simp] theorem writeRsp_freeCount (r : Response) (s : State) : (writeRsp r s).freeCount = s.freeCount := rfl

@[simp] theorem resetEdge_rspValid (s : State) : (resetEdge s).rspValid = false := rfl
@[simp] theorem resetEdge_rom (s : State) : (resetEdge s).rom = s.rom := rfl
@[simp] theorem resetEdge_widths (s : State) : (resetEdge s).widths = s.widths := rfl
@[simp] theorem resetEdge_inputs (s : State) : (resetEdge s).inputs = s.inputs := rfl
@[simp] theorem resetEdge_freeCount (s : State) : (resetEdge s).freeCount = s.freeCount + 1 := rfl

@[simp] theorem portRequest_len (ws : Widths) (p : PortsIn) : (portRequest ws p).len = p.reqLen % 2 ^ ws.lenW := rfl
@[simp] theorem portRequest_data (ws : Widths) (p : PortsIn) : (portRequest ws p).data = p.reqData := rfl

@[simp] theorem takeRsp_rspValid (s : State) : (takeRsp s).rspValid = false := rfl
@[simp] theorem takeRsp_rsp (s : State) : (takeRsp s).rsp = s.rsp := rfl
@[simp] theorem takeRsp_rom (s : State) : (takeRsp s).rom = s.rom := rfl
@[simp] theorem takeRsp_widths (s : State) : (takeRsp s).widths = s.widths := rfl
@[simp] theorem takeRsp_inputs (s : State) : (takeRsp s).inputs = s.inputs := rfl
@[simp] theorem takeRsp_freeCount (s : State) : (takeRsp s).freeCount = s.freeCount := rfl

@[simp] theorem advance_rspValid (s : State) : (advance s).rspValid = s.rspValid := rfl
@[simp] theorem advance_rsp (s : State) : (advance s).rsp = s.rsp := rfl
@[simp] theorem advance_rom (s : State) : (advance s).rom = s.rom := rfl
@[simp] theorem advance_widths (s : State) : (advance s).widths = s.widths := rfl
@[simp] theorem advance_inputs (s : State) : (advance s).inputs = s.inputs.tail := rfl
@[simp] theorem advance_freeCount (s : State) : (advance s).freeCount = s.freeCount := rfl

@[simp] theorem withFetchWord_widths (s : State) (nbits w : Nat) : (s.withFetchWord nbits w).widths = s.widths := rfl
@[simp] theorem withFetchWord_rspValid (s : State) (nbits w : Nat) : (s.withFetchWord nbits w).rspValid = s.rspValid := rfl
@[simp] theorem withFetchWord_advance (s : State) (nbits w : Nat) : advance (s.withFetchWord nbits w) = s := rfl
@[simp] theorem withFetchWord_nextPorts (s : State) (nbits w : Nat) :
    nextPorts (s.withFetchWord nbits w) =
      ⟨true, true, (tableRequest nbits w).len, (tableRequest nbits w).data, true⟩ := rfl

end Sys2Proof.Machine
end

