-- ==== Sys2Proof/Laws/Ops.lean ====
section
/-! SUPPORT. What a meaning and a step can do, said once: every meaning writes one response to RSP, and an edge is a reset, an
accept, a take or a hold (R105). -/

namespace Sys2Proof.Machine

@[simp] theorem respond_eq (r : Response) (s : State) : respond r s = .next (writeRsp r s) := rfl

@[simp] theorem raiseInvalid_eq (code : BitVec 4) (w : Word) (s : State) :
    raiseInvalid code w s = .next (writeRsp (invalidResponse code w) s) := rfl

/-- The response an order-7 path writes after its layer's own checks (R143, R145, R182). -/
theorem resolve_eq (version layer : BitVec 2) (spf : Nat) (size : BitVec 9 → BitVec 16 → Nat) (h : Header)
    (s : State) :
    resolve version layer spf size h s =
      .next (writeRsp
        (if lookupBitrate s.rom h.bri (lookupColumn s.rom version layer) = 0#9 then
          invalidResponse diagBitrateZero (headerWord h)
        else if lookupSampleRate s.rom h.sri version = 0#16 then invalidResponse diagSampleRateZero (headerWord h)
        else okResponse s.widths (size (lookupBitrate s.rom h.bri (lookupColumn s.rom version layer))
            (lookupSampleRate s.rom h.sri version)) (lookupSampleRate s.rom h.sri version) (mapChannel h.cm) spf
            (headerWord h)) s) := by
  unfold resolve
  simp only [raiseInvalid_eq, respond_eq]
  split <;> [rfl; (split <;> rfl)]

/-- The Layer II path in one response (R130 first). -/
theorem layerIIPath_eq (version : BitVec 2) (h : Header) (s : State) :
    layerIIPath version h s =
      if lookupL2Allowed s.rom h.bri h.cm = 1#1 then .next (writeRsp (invalidResponse diagL2Combination (headerWord h)) s)
      else resolve version layerII 1152 (fun br sr => frameSizeL23 s.widths 1152 br sr h.padding) h s := rfl

theorem layerIPath_eq (version : BitVec 2) (h : Header) (s : State) :
    layerIPath version h s = resolve version layerI 384 (fun br sr => frameSizeL1 s.widths br sr h.padding) h s := rfl

theorem layerIIIPath_eq (version : BitVec 2) (spf : Nat) (h : Header) (s : State) :
    layerIIIPath version spf h s = resolve version layerIII spf (fun br sr => frameSizeL23 s.widths spf br sr h.padding) h s := rfl

/-- Every meaning ends in the next state that writes one response to RSP. -/
theorem exec_writes_one_response (i : Instr) (s : State) : ∃ r, exec i s = .next (writeRsp r s) := by
  have hr : ∀ version layer spf size h, ∃ r, resolve version layer spf size h s = .next (writeRsp r s) :=
    fun _ _ _ _ _ => ⟨_, resolve_eq ..⟩
  have h1 : ∀ version h, ∃ r, layerIPath version h s = .next (writeRsp r s) := fun _ _ => hr ..
  have h3 : ∀ version spf h, ∃ r, layerIIIPath version spf h s = .next (writeRsp r s) := fun _ _ _ => hr ..
  have h2 : ∀ version h, ∃ r, layerIIPath version h s = .next (writeRsp r s) := by
    intro version h
    rw [layerIIPath_eq]
    split
    · exact ⟨_, rfl⟩
    · exact hr ..
  cases i
  case decode => exact ⟨_, rfl⟩
  case needMore => exact ⟨_, rfl⟩
  case hdrSyncErr => exact ⟨_, rfl⟩
  case hdrVerRes => exact ⟨_, rfl⟩
  case hdrLayerRes => exact ⟨_, rfl⟩
  case hdrBriFree => exact ⟨_, rfl⟩
  case hdrBriBad => exact ⟨_, rfl⟩
  case hdrSriRes => exact ⟨_, rfl⟩
  case hdrM1L1 => exact h1 ..
  case hdrM1L2 => exact h2 ..
  case hdrM1L3 => exact h3 ..
  case hdrM2L1 => exact h1 ..
  case hdrM2L2 => exact h2 ..
  case hdrM2L3 => exact h3 ..
  case hdrM25L1 => exact h1 ..
  case hdrM25L2 => exact h2 ..
  case hdrM25L3 => exact h3 ..

/-- An edge that answers a next state is one of four: reset, accept, take, hold (R105). -/
theorem step_cases {s t : State} (h : step s = .next t) :
    ((nextPorts s).rstN = false ∧ t = resetEdge (advance s)) ∨
    ((nextPorts s).rstN = true ∧ accepts s (nextPorts s) = true ∧
      ∃ i, decode (portRequest s.widths (nextPorts s)) = some i ∧ exec i (advance s) = .next t) ∨
    ((nextPorts s).rstN = true ∧ accepts s (nextPorts s) = false ∧ takes s (nextPorts s) = true ∧
      t = takeRsp (advance s)) ∨
    ((nextPorts s).rstN = true ∧ accepts s (nextPorts s) = false ∧ takes s (nextPorts s) = false ∧ t = advance s) := by
  unfold step at h
  simp only at h
  split at h
  case isTrue hr =>
    cases h
    exact .inl ⟨hr, rfl⟩
  case isFalse hr =>
    simp only [Bool.not_eq_false] at hr
    split at h
    case isTrue ha =>
      split at h
      case h_1 i hi => exact .inr (.inl ⟨hr, ha, i, hi, h⟩)
      case h_2 => cases h
    case isFalse ha =>
      simp only [Bool.not_eq_true] at ha
      split at h
      case isTrue ht =>
        cases h
        exact .inr (.inr (.inl ⟨hr, ha, ht, rfl⟩))
      case isFalse ht =>
        cases h
        exact .inr (.inr (.inr ⟨hr, ha, by simpa using ht, rfl⟩))

end Sys2Proof.Machine
end

