-- ==== Sys2Proof/Laws/PerInstr.lean ====
section
/-! SUPPORT. Families of statements made once per instruction. -/

namespace Sys2Proof.Laws

/-- The parsed header that a row of format HDR32 carries. -/
def operandHeader : Instr → Option Header
  | .decode _ _ | .needMore _ _ => none
  | .hdrSyncErr h | .hdrVerRes h | .hdrLayerRes h | .hdrBriFree h | .hdrBriBad h | .hdrSriRes h
  | .hdrM1L1 h | .hdrM1L2 h | .hdrM1L3 h | .hdrM2L1 h | .hdrM2L2 h | .hdrM2L3 h
  | .hdrM25L1 h | .hdrM25L2 h | .hdrM25L3 h => some h

/-- The family EncodeCarriesHeader: a HDR32 row's request holds enough bytes, and its data parse to the row's header. -/
def EncodeCarriesHeader.Statement (i : Instr) : Prop :=
  ∀ h, operandHeader i = some h → ¬ (encode i).len < 4 ∧ parseHeader (encode i).data = h

namespace EncodeCarriesHeader

/-- The one reason, for every row that carries a header. -/
theorem of_header (h : Header) (i : Instr) (ho : operandHeader i = some h) (he : encode i = ⟨4, headerWord h⟩) :
    Statement i := by
  intro h' e
  rw [ho] at e
  cases e
  simp [he]

theorem decode (len : Nat) (data : Word) : Statement (.decode len data) := fun _ e => nomatch e
theorem needMore (len : Nat) (data : Word) : Statement (.needMore len data) := fun _ e => nomatch e
theorem hdrSyncErr (h : Header) : Statement (.hdrSyncErr h) := of_header h _ rfl rfl
theorem hdrVerRes (h : Header) : Statement (.hdrVerRes h) := of_header h _ rfl rfl
theorem hdrLayerRes (h : Header) : Statement (.hdrLayerRes h) := of_header h _ rfl rfl
theorem hdrBriFree (h : Header) : Statement (.hdrBriFree h) := of_header h _ rfl rfl
theorem hdrBriBad (h : Header) : Statement (.hdrBriBad h) := of_header h _ rfl rfl
theorem hdrSriRes (h : Header) : Statement (.hdrSriRes h) := of_header h _ rfl rfl
theorem hdrM1L1 (h : Header) : Statement (.hdrM1L1 h) := of_header h _ rfl rfl
theorem hdrM1L2 (h : Header) : Statement (.hdrM1L2 h) := of_header h _ rfl rfl
theorem hdrM1L3 (h : Header) : Statement (.hdrM1L3 h) := of_header h _ rfl rfl
theorem hdrM2L1 (h : Header) : Statement (.hdrM2L1 h) := of_header h _ rfl rfl
theorem hdrM2L2 (h : Header) : Statement (.hdrM2L2 h) := of_header h _ rfl rfl
theorem hdrM2L3 (h : Header) : Statement (.hdrM2L3 h) := of_header h _ rfl rfl
theorem hdrM25L1 (h : Header) : Statement (.hdrM25L1 h) := of_header h _ rfl rfl
theorem hdrM25L2 (h : Header) : Statement (.hdrM25L2 h) := of_header h _ rfl rfl
theorem hdrM25L3 (h : Header) : Statement (.hdrM25L3 h) := of_header h _ rfl rfl

end EncodeCarriesHeader
end Sys2Proof.Laws
end

