-- ==== Sys2Proof/Laws/Request.lean ====
section
/-! SUPPORT. The length step of DECODE and of the decode map (R120), and the arms of exec that answer one response. -/

namespace Sys2Proof

theorem decode_of_short {len : Nat} (data : Word) (h : len < 4) :
    decode ⟨len, data⟩ = some (.needMore len data) := by
  simp [decode, h]

theorem decode_of_long {len : Nat} (data : Word) (h : ¬ len < 4) :
    decode ⟨len, data⟩ = (decodeMap.find? (rowMatches · data)).map fun row => classInstr row.cls (parseHeader data) := by
  simp [decode, h]

namespace Machine

theorem decodeFunction_of_short (t : Tables) (ws : Widths) {len : Nat} (data : Word) (h : len < 4) :
    decodeFunction t ws len data = needMoreResponse := by
  simp [decodeFunction, h]

theorem decodeFunction_of_long (t : Tables) (ws : Widths) {len : Nat} (data : Word) (h : ¬ len < 4) :
    decodeFunction t ws len data = decodeHeader t ws (parseHeader data) data := by
  simp [decodeFunction, h]

/-- What the listing answers after the length check: INVALID with a diagnostic in 2..9, or OK with every check passed. -/
theorem decodeHeader_cases (t : Tables) (ws : Widths) (h : Header) (w : Word) :
    (∃ code : BitVec 4, 2 ≤ code.toNat ∧ code.toNat ≤ 9 ∧ decodeHeader t ws h w = invalidResponse code w) ∨
    (h.accepted = true ∧ ¬ (h.layer = layerII ∧ lookupL2Allowed t h.bri h.cm = 1#1) ∧
      lookupBitrate t h.bri (lookupColumn t h.version h.layer) ≠ 0#9 ∧ lookupSampleRate t h.sri h.version ≠ 0#16 ∧
      decodeHeader t ws h w = okResponse ws
        (if h.layer = layerI then
          frameSizeL1 ws (lookupBitrate t h.bri (lookupColumn t h.version h.layer)) (lookupSampleRate t h.sri h.version) h.padding
        else
          frameSizeL23 ws (samplesPerFrame h.version h.layer) (lookupBitrate t h.bri (lookupColumn t h.version h.layer))
            (lookupSampleRate t h.sri h.version) h.padding)
        (lookupSampleRate t h.sri h.version) (mapChannel h.cm) (samplesPerFrame h.version h.layer) w) := by
  unfold decodeHeader
  by_cases h1 : h.sync = 0x7FF#11
  case neg => exact .inl ⟨diagSync, by decide, by decide, if_pos h1⟩
  rw [if_neg (not_not.2 h1)]
  by_cases h2 : h.version = versionReserved
  case pos => exact .inl ⟨diagVersion, by decide, by decide, if_pos h2⟩
  rw [if_neg h2]
  by_cases h3 : h.layer = layerReserved
  case pos => exact .inl ⟨diagLayer, by decide, by decide, if_pos h3⟩
  rw [if_neg h3]
  by_cases h4 : h.bri = 0x0#4 ∨ h.bri = 0xF#4
  case pos => exact .inl ⟨diagBitrateIndex, by decide, by decide, if_pos h4⟩
  rw [if_neg h4]
  by_cases h5 : h.sri = 0b11#2
  case pos => exact .inl ⟨diagSampleRateIndex, by decide, by decide, if_pos h5⟩
  rw [if_neg h5]
  by_cases h6 : h.layer = layerII ∧ lookupL2Allowed t h.bri h.cm = 1#1
  case pos => exact .inl ⟨diagL2Combination, by decide, by decide, if_pos h6⟩
  rw [if_neg h6]
  by_cases h7 : lookupBitrate t h.bri (lookupColumn t h.version h.layer) = 0#9
  case pos => exact .inl ⟨diagBitrateZero, by decide, by decide, if_pos h7⟩
  by_cases h8 : lookupSampleRate t h.sri h.version = 0#16
  case pos => exact .inl ⟨diagSampleRateZero, by decide, by decide, (if_neg h7).trans (if_pos h8)⟩
  refine .inr ⟨?_, h6, h7, h8, (if_neg h7).trans (if_neg h8)⟩
  rw [not_or] at h4
  simp only [versionReserved, layerReserved] at h2 h3
  simp [Header.accepted, Header.briOk, Header.layerOk, Header.versionOk, Header.syncOk, h1, h2, h3, h4.1, h4.2, h5]

/-- DECODE is its function, written to RSP (R100). -/
theorem exec_decode (len : Nat) (data : Word) (s : State) :
    exec (.decode len data) s = .next (writeRsp (decodeFunction s.rom s.widths len data) s) := rfl

theorem exec_needMore (len : Nat) (data : Word) (s : State) : exec (.needMore len data) s = .next (writeRsp needMoreResponse s) := rfl

end Machine
end Sys2Proof
end

