-- ==== Sys2Proof/Laws/Rows.lean ====
section
/-! SUPPORT. The condition of each row of the decode map (R84), in terms of the parsed fields it compares. -/

namespace Sys2Proof

theorem mask_sync (w : Word) (f : BitVec 11) : w &&& 0xFFE00000#32 = (f.zeroExtend 32) <<< 21 ↔ (parseHeader w).sync = f :=
  and_eq_iff_field w _ _ 21 11 f (by decide) (by decide) rfl

theorem mask_version (w : Word) (f : BitVec 2) : w &&& 0x00180000#32 = (f.zeroExtend 32) <<< 19 ↔ (parseHeader w).version = f :=
  and_eq_iff_field w _ _ 19 2 f (by decide) (by decide) rfl

theorem mask_layer (w : Word) (f : BitVec 2) : w &&& 0x00060000#32 = (f.zeroExtend 32) <<< 17 ↔ (parseHeader w).layer = f :=
  and_eq_iff_field w _ _ 17 2 f (by decide) (by decide) rfl

theorem mask_bri (w : Word) (f : BitVec 4) : w &&& 0x0000F000#32 = (f.zeroExtend 32) <<< 12 ↔ (parseHeader w).bri = f :=
  and_eq_iff_field w _ _ 12 4 f (by decide) (by decide) rfl

theorem mask_sri (w : Word) (f : BitVec 2) : w &&& 0x00000C00#32 = (f.zeroExtend 32) <<< 10 ↔ (parseHeader w).sri = f :=
  and_eq_iff_field w _ _ 10 2 f (by decide) (by decide) rfl

/-- The mask of row 2 compares sync and version. -/
theorem mask_sync_version (w : Word) (f : BitVec 11) (g : BitVec 2) :
    w &&& 0xFFF80000#32 = (f.zeroExtend 32) <<< 21 ||| (g.zeroExtend 32) <<< 19 ↔
      (parseHeader w).sync = f ∧ (parseHeader w).version = g := by
  rw [show 0xFFF80000#32 = 0xFFE00000#32 ||| 0x00180000#32 by decide,
    and_or_eq_iff, mask_sync, mask_version]
  · exact (and_eq_iff_field _ _ _ 21 11 f (by decide) (by decide) rfl).2 (by
      rw [extractLsb'_eq_iff]; intro i hi; interval_cases i <;> simp)
  · exact (and_eq_iff_field _ _ _ 19 2 g (by decide) (by decide) rfl).2 (by
      rw [extractLsb'_eq_iff]; intro i hi; interval_cases i <;> simp)
  · decide

/-- The mask of row 3 compares sync and layer. -/
theorem mask_sync_layer (w : Word) (f : BitVec 11) (g : BitVec 2) :
    w &&& 0xFFE60000#32 = (f.zeroExtend 32) <<< 21 ||| (g.zeroExtend 32) <<< 17 ↔
      (parseHeader w).sync = f ∧ (parseHeader w).layer = g := by
  rw [show 0xFFE60000#32 = 0xFFE00000#32 ||| 0x00060000#32 by decide,
    and_or_eq_iff, mask_sync, mask_layer]
  · exact (and_eq_iff_field _ _ _ 21 11 f (by decide) (by decide) rfl).2 (by
      rw [extractLsb'_eq_iff]; intro i hi; interval_cases i <;> simp)
  · exact (and_eq_iff_field _ _ _ 17 2 g (by decide) (by decide) rfl).2 (by
      rw [extractLsb'_eq_iff]; intro i hi; interval_cases i <;> simp)
  · decide

/-- The mask of the order-7 rows compares sync, version and layer. -/
theorem mask_sync_version_layer (w : Word) (f : BitVec 11) (g k : BitVec 2) :
    w &&& 0xFFFE0000#32 = ((f.zeroExtend 32) <<< 21 ||| (g.zeroExtend 32) <<< 19) ||| (k.zeroExtend 32) <<< 17 ↔
      (parseHeader w).sync = f ∧ (parseHeader w).version = g ∧ (parseHeader w).layer = k := by
  rw [show 0xFFFE0000#32 = 0xFFF80000#32 ||| 0x00060000#32 by decide,
    and_or_eq_iff, mask_sync_version, mask_layer, and_assoc]
  · apply BitVec.eq_of_getLsbD_eq
    intro i hi
    interval_cases i <;> simp
  · apply BitVec.eq_of_getLsbD_eq
    intro i hi
    interval_cases i <;> simp
  · decide

section
variable (w : Word)

theorem syncErr_iff : w &&& 0xFFE00000#32 = 0xFFE00000#32 ↔ (parseHeader w).sync = 0x7FF#11 := mask_sync w 0x7FF#11
theorem verRes_iff : w &&& 0xFFF80000#32 = 0xFFE80000#32 ↔ (parseHeader w).sync = 0x7FF#11 ∧ (parseHeader w).version = 0b01#2 :=
  mask_sync_version w 0x7FF#11 0b01#2
theorem layerRes_iff : w &&& 0xFFE60000#32 = 0xFFE00000#32 ↔ (parseHeader w).sync = 0x7FF#11 ∧ (parseHeader w).layer = 0b00#2 :=
  mask_sync_layer w 0x7FF#11 0b00#2
theorem briFree_iff : w &&& 0x0000F000#32 = 0x00000000#32 ↔ (parseHeader w).bri = 0x0#4 := mask_bri w 0x0
theorem briBad_iff : w &&& 0x0000F000#32 = 0x0000F000#32 ↔ (parseHeader w).bri = 0xF#4 := mask_bri w 0xF
theorem sriRes_iff : w &&& 0x00000C00#32 = 0x00000C00#32 ↔ (parseHeader w).sri = 0b11#2 := mask_sri w 0b11
theorem m1L1_iff : w &&& 0xFFFE0000#32 = 0xFFFE0000#32 ↔
    (parseHeader w).sync = 0x7FF#11 ∧ (parseHeader w).version = 0b11#2 ∧ (parseHeader w).layer = 0b11#2 :=
  mask_sync_version_layer w 0x7FF#11 0b11#2 0b11#2
theorem m1L2_iff : w &&& 0xFFFE0000#32 = 0xFFFC0000#32 ↔
    (parseHeader w).sync = 0x7FF#11 ∧ (parseHeader w).version = 0b11#2 ∧ (parseHeader w).layer = 0b10#2 :=
  mask_sync_version_layer w 0x7FF#11 0b11#2 0b10#2
theorem m1L3_iff : w &&& 0xFFFE0000#32 = 0xFFFA0000#32 ↔
    (parseHeader w).sync = 0x7FF#11 ∧ (parseHeader w).version = 0b11#2 ∧ (parseHeader w).layer = 0b01#2 :=
  mask_sync_version_layer w 0x7FF#11 0b11#2 0b01#2
theorem m2L1_iff : w &&& 0xFFFE0000#32 = 0xFFF60000#32 ↔
    (parseHeader w).sync = 0x7FF#11 ∧ (parseHeader w).version = 0b10#2 ∧ (parseHeader w).layer = 0b11#2 :=
  mask_sync_version_layer w 0x7FF#11 0b10#2 0b11#2
theorem m2L2_iff : w &&& 0xFFFE0000#32 = 0xFFF40000#32 ↔
    (parseHeader w).sync = 0x7FF#11 ∧ (parseHeader w).version = 0b10#2 ∧ (parseHeader w).layer = 0b10#2 :=
  mask_sync_version_layer w 0x7FF#11 0b10#2 0b10#2
theorem m2L3_iff : w &&& 0xFFFE0000#32 = 0xFFF20000#32 ↔
    (parseHeader w).sync = 0x7FF#11 ∧ (parseHeader w).version = 0b10#2 ∧ (parseHeader w).layer = 0b01#2 :=
  mask_sync_version_layer w 0x7FF#11 0b10#2 0b01#2
theorem m25L1_iff : w &&& 0xFFFE0000#32 = 0xFFE60000#32 ↔
    (parseHeader w).sync = 0x7FF#11 ∧ (parseHeader w).version = 0b00#2 ∧ (parseHeader w).layer = 0b11#2 :=
  mask_sync_version_layer w 0x7FF#11 0b00#2 0b11#2
theorem m25L2_iff : w &&& 0xFFFE0000#32 = 0xFFE40000#32 ↔
    (parseHeader w).sync = 0x7FF#11 ∧ (parseHeader w).version = 0b00#2 ∧ (parseHeader w).layer = 0b10#2 :=
  mask_sync_version_layer w 0x7FF#11 0b00#2 0b10#2
theorem m25L3_iff : w &&& 0xFFFE0000#32 = 0xFFE20000#32 ↔
    (parseHeader w).sync = 0x7FF#11 ∧ (parseHeader w).version = 0b00#2 ∧ (parseHeader w).layer = 0b01#2 :=
  mask_sync_version_layer w 0x7FF#11 0b00#2 0b01#2

end

end Sys2Proof
end

