-- ==== Sys2Proof/Laws/Tables.lean ====
section
/-! SUPPORT. What R8 says of each cell that a lookup reads. -/

namespace Sys2Proof.Machine

/-- A cell of a vector is a member of its list. -/
theorem get_mem_toList {α : Type} {n : Nat} (v : Vector α n) (i : Fin n) : v.get i ∈ v.toList := by
  simp [Vector.get]

theorem tablesOk_bitrate_row {t : Tables} (h : tablesOk t = true) (bri : BitVec 4) :
    ((t.bitrate.get bri.toFin).toList.all (fun c => decide (c ≤ 448#9)) && (t.bitrate.get bri.toFin).get 5 == 0#9) = true :=
  List.all_eq_true.1 (Bool.and_eq_true_iff.1 h).1 _ (get_mem_toList _ _)

/-- A bitrate is at most 448 kbps (R8). -/
theorem lookupBitrate_le {t : Tables} (h : tablesOk t = true) (bri : BitVec 4) (col : Fin 6) :
    (lookupBitrate t bri col).toNat ≤ 448 := by
  have row := (Bool.and_eq_true_iff.1 (tablesOk_bitrate_row h bri)).1
  simpa [lookupBitrate, BitVec.le_def] using List.all_eq_true.1 row _ (get_mem_toList _ col)

/-- Column 5 holds only zeros (R8). -/
theorem lookupBitrate_reserved {t : Tables} (h : tablesOk t = true) (bri : BitVec 4) : lookupBitrate t bri 5 = 0#9 := by
  simpa [lookupBitrate] using (Bool.and_eq_true_iff.1 (tablesOk_bitrate_row h bri)).2

/-- A sample rate is 0 or at least 8000 Hz (R8). -/
theorem lookupSampleRate_ge {t : Tables} (h : tablesOk t = true) (sri version : BitVec 2)
    (hz : lookupSampleRate t sri version ≠ 0#16) : 8000 ≤ (lookupSampleRate t sri version).toNat := by
  have row := List.all_eq_true.1 (Bool.and_eq_true_iff.1 h).2 _ (get_mem_toList _ sri.toFin)
  have cell := List.all_eq_true.1 row _ (get_mem_toList _ version.toFin)
  simp only [Bool.or_eq_true, beq_iff_eq, decide_eq_true_eq] at cell
  simpa [lookupSampleRate, BitVec.le_def] using cell.resolve_left hz

end Sys2Proof.Machine
end

