-- ==== Sys2Proof/Tests/Slice0.lean ====
section
/-! SUPPORT. The model's own tests: the WellFormed smoke, the decoding of words written bit by bit from R65, one step of each
row with its response from spec/95_test_vectors.md, the handshake edges of program P3, and a witness for the hypotheses of
each statement. A response is ⟨status, consumed, frame size, sample rate, layout, sample count, diag, header⟩. -/

namespace Sys2Proof.Tests

open Sys2Proof.Machine

/-- RSP after an outcome: its payload if the next state holds a response. -/
def rspAfter : Outcome → Option Response
  | .next t => observedRsp t
  | .fault _ => none
  | .refused _ => none

/-- `rsp_valid` after an outcome that answers a next state. -/
def validAfter : Outcome → Option Bool
  | .next t => some t.rspValid
  | .fault _ => none
  | .refused _ => none

/-- The host presents a request, taking a waiting response or not. -/
def offer (len : Nat) (data : Word) (ready : Bool) : PortsIn := ⟨true, true, len, data, ready⟩

/-- The host presents nothing. -/
def quiet (ready : Bool) : PortsIn := ⟨true, false, 0, 0, ready⟩

/-- The host asserts reset while it presents a request. -/
def resetting : PortsIn := ⟨false, true, 4, 0xFFFB9000, false⟩

/-- The response V1 of spec/95_test_vectors.md. -/
def v1 : Response := ⟨0, 4, 417, 44100, 1, 1152, 0, 0xFFFB9064⟩

/-- RSP empty, one edge to come. -/
def emptyAt (p : PortsIn) : State := { State.reset with inputs := [p] }

/-- RSP holding V1's response, one edge to come. -/
def fullAt (p : PortsIn) : State := { State.reset with rspValid := true, rsp := v1, inputs := [p] }

/-! ### WellFormed: a term that each check refuses -/

theorem test_wf_needMore_len : (Instr.needMore 4 0).wf = false := by decide
theorem test_wf_syncErr_good_sync : (Instr.hdrSyncErr (parseHeader 0xFFFB9064)).wf = false := by decide
theorem test_wf_verRes_bad_sync : (Instr.hdrVerRes (parseHeader 0x7FEB9064)).wf = false := by decide
theorem test_wf_verRes_good_version : (Instr.hdrVerRes (parseHeader 0xFFFB9064)).wf = false := by decide
theorem test_wf_layerRes_reserved_version : (Instr.hdrLayerRes (parseHeader 0xFFE99064)).wf = false := by decide
theorem test_wf_briFree_reserved_layer : (Instr.hdrBriFree (parseHeader 0xFFF90000)).wf = false := by decide
theorem test_wf_briBad_good_bri : (Instr.hdrBriBad (parseHeader 0xFFFBE064)).wf = false := by decide
theorem test_wf_sriRes_free_bri : (Instr.hdrSriRes (parseHeader 0xFFFB0C00)).wf = false := by decide
theorem test_wf_sriRes_bad_bri : (Instr.hdrSriRes (parseHeader 0xFFFBFC00)).wf = false := by decide
theorem test_wf_m1L3_reserved_sri : (Instr.hdrM1L3 (parseHeader 0xFFFB9C64)).wf = false := by decide
theorem test_wf_m1L1_other_layer : (Instr.hdrM1L1 (parseHeader 0xFFFB9064)).wf = false := by decide
theorem test_wf_m2L3_other_version : (Instr.hdrM2L3 (parseHeader 0xFFFB9064)).wf = false := by decide
theorem test_wf_m25L2_accepts_its_own : (Instr.hdrM25L2 (parseHeader 0xFFE5E800)).wf = true := by decide

/-! ### Decoding: words written bit by bit (sync, version, layer, protection, bri, sri, padding, private, cm, other) -/

/-- Format REQ: any whole request is DECODE (R60). -/
theorem test_decode_decode : decodeTableWord 64 0x00000004FFFB9064 = some (.decode 4 0xFFFB9064) := by decide
/-- R84 order 0: `len = 3`. -/
theorem test_decode_needMore : decode ⟨3, 0b11111111111110111001000001100100⟩ = some (.needMore 3 0xFFFB9064) := by decide
theorem test_decode_hdrSyncErr : decode ⟨4, 0b01111111111110111001000001100100⟩ = some (.hdrSyncErr ⟨0x3FF, 3, 1, 1, 9, 0, 0, 0, 1, 36⟩) := by decide
theorem test_decode_hdrVerRes : decode ⟨4, 0b11111111111010010000110000000000⟩ = some (.hdrVerRes ⟨0x7FF, 1, 0, 1, 0, 3, 0, 0, 0, 0⟩) := by decide
theorem test_decode_hdrLayerRes : decode ⟨4, 0b11111111111110010000000000000000⟩ = some (.hdrLayerRes ⟨0x7FF, 3, 0, 1, 0, 0, 0, 0, 0, 0⟩) := by decide
theorem test_decode_hdrBriFree : decode ⟨4, 0b11111111111110110000110000000000⟩ = some (.hdrBriFree ⟨0x7FF, 3, 1, 1, 0, 3, 0, 0, 0, 0⟩) := by decide
theorem test_decode_hdrBriBad : decode ⟨4, 0b11111111111111111111111111111111⟩ = some (.hdrBriBad ⟨0x7FF, 3, 3, 1, 15, 3, 1, 1, 3, 63⟩) := by decide
theorem test_decode_hdrSriRes : decode ⟨4, 0b11111111111111011000110000000000⟩ = some (.hdrSriRes ⟨0x7FF, 3, 2, 1, 8, 3, 0, 0, 0, 0⟩) := by decide
theorem test_decode_hdrM1L1 : decode ⟨4, 0b11111111111111110001000000000000⟩ = some (.hdrM1L1 ⟨0x7FF, 3, 3, 1, 1, 0, 0, 0, 0, 0⟩) := by decide
theorem test_decode_hdrM1L2 : decode ⟨4, 0b11111111111111010001000011000000⟩ = some (.hdrM1L2 ⟨0x7FF, 3, 2, 1, 1, 0, 0, 0, 3, 0⟩) := by decide
theorem test_decode_hdrM1L3 : decode ⟨4, 0b11111111111110111001001001100100⟩ = some (.hdrM1L3 ⟨0x7FF, 3, 1, 1, 9, 0, 1, 0, 1, 36⟩) := by decide
theorem test_decode_hdrM2L1 : decode ⟨4, 0b11111111111101110001100000000000⟩ = some (.hdrM2L1 ⟨0x7FF, 2, 3, 1, 1, 2, 0, 0, 0, 0⟩) := by decide
theorem test_decode_hdrM2L2 : decode ⟨4, 0b11111111111101010001000001000000⟩ = some (.hdrM2L2 ⟨0x7FF, 2, 2, 1, 1, 0, 0, 0, 1, 0⟩) := by decide
theorem test_decode_hdrM2L3 : decode ⟨4, 0b11111111111100110001011000000000⟩ = some (.hdrM2L3 ⟨0x7FF, 2, 1, 1, 1, 1, 1, 0, 0, 0⟩) := by decide
theorem test_decode_hdrM25L1 : decode ⟨4, 0b11111111111001111110101000000000⟩ = some (.hdrM25L1 ⟨0x7FF, 0, 3, 1, 14, 2, 1, 0, 0, 0⟩) := by decide
theorem test_decode_hdrM25L2 : decode ⟨4, 0b11111111111001011110101000000000⟩ = some (.hdrM25L2 ⟨0x7FF, 0, 2, 1, 14, 2, 1, 0, 0, 0⟩) := by decide
theorem test_decode_hdrM25L3 : decode ⟨4, 0b11111111111000111110100011000000⟩ = some (.hdrM25L3 ⟨0x7FF, 0, 1, 1, 14, 2, 0, 0, 3, 0⟩) := by decide

/-! ### One step of each row as the first instruction after reset, and its response -/

/-- 40 R100, the example. -/
theorem test_exec_decode : rspAfter (exec (.decode 4 0xFFFB9064) State.reset) = some v1 := by decide
/-- 95 V5: data that would be valid, three bytes. -/
theorem test_step_needMore : rspAfter (step (State.reset.withFetchWord 24 0xFFFB90)) = some ⟨1, 0, 0, 0, 0, 0, 1, 0⟩ := by decide
/-- 95 V6. -/
theorem test_step_hdrSyncErr : rspAfter (step (State.reset.withFetchWord 32 0x7FFB9064)) = some ⟨2, 0, 0, 0, 0, 0, 2, 0x7FFB9064⟩ := by decide
/-- 95 section 2.3, version, layer, bri and sri all failing. -/
theorem test_step_hdrVerRes : rspAfter (step (State.reset.withFetchWord 32 0xFFE90C00)) = some ⟨2, 0, 0, 0, 0, 0, 3, 0xFFE90C00⟩ := by decide
/-- 95 section 2.3. -/
theorem test_step_hdrLayerRes : rspAfter (step (State.reset.withFetchWord 32 0xFFF90000)) = some ⟨2, 0, 0, 0, 0, 0, 4, 0xFFF90000⟩ := by decide
/-- 95 section 2.3. -/
theorem test_step_hdrBriFree : rspAfter (step (State.reset.withFetchWord 32 0xFFFB0C00)) = some ⟨2, 0, 0, 0, 0, 0, 5, 0xFFFB0C00⟩ := by decide
/-- 95 section 2.3. -/
theorem test_step_hdrBriBad : rspAfter (step (State.reset.withFetchWord 32 0xFFFFFFFF)) = some ⟨2, 0, 0, 0, 0, 0, 5, 0xFFFFFFFF⟩ := by decide
/-- 95 section 2.3, a Layer II pair that step 4 would reject. -/
theorem test_step_hdrSriRes : rspAfter (step (State.reset.withFetchWord 32 0xFFFD8C00)) = some ⟨2, 0, 0, 0, 0, 0, 6, 0xFFFD8C00⟩ := by decide
/-- 95 section 2.6, truncation before the slots. -/
theorem test_step_hdrM1L1 : rspAfter (step (State.reset.withFetchWord 32 0xFFFF1000)) = some ⟨0, 4, 32, 44100, 1, 384, 0, 0xFFFF1000⟩ := by decide
/-- 95 section 2.4, SingleChannel. -/
theorem test_step_hdrM1L2 : rspAfter (step (State.reset.withFetchWord 32 0xFFFD10C0)) = some ⟨0, 4, 104, 44100, 0, 1152, 0, 0xFFFD10C0⟩ := by decide
/-- 43 R163, padding. -/
theorem test_step_hdrM1L3 : rspAfter (step (State.reset.withFetchWord 32 0xFFFB9264)) = some ⟨0, 4, 418, 44100, 1, 1152, 0, 0xFFFB9264⟩ := by decide
/-- 95 sections 2.5 and 4. -/
theorem test_step_hdrM2L1 : rspAfter (step (State.reset.withFetchWord 32 0xFFF71800)) = some ⟨0, 4, 96, 16000, 1, 384, 0, 0xFFF71800⟩ := by decide
/-- 95 section 2.4. -/
theorem test_step_hdrM2L2 : rspAfter (step (State.reset.withFetchWord 32 0xFFF51040)) = some ⟨0, 4, 52, 22050, 1, 1152, 0, 0xFFF51040⟩ := by decide
/-- 95 section 2.6, smallest size padded. -/
theorem test_step_hdrM2L3 : rspAfter (step (State.reset.withFetchWord 32 0xFFF31600)) = some ⟨0, 4, 25, 24000, 1, 576, 0, 0xFFF31600⟩ := by decide
/-- 95 section 2.6, largest Layer I size. -/
theorem test_step_hdrM25L1 : rspAfter (step (State.reset.withFetchWord 32 0xFFE7EA00)) = some ⟨0, 4, 1540, 8000, 1, 384, 0, 0xFFE7EA00⟩ := by decide
/-- 95 section 2.6, largest size. -/
theorem test_step_hdrM25L2 : rspAfter (step (State.reset.withFetchWord 32 0xFFE5EA00)) = some ⟨0, 4, 2881, 8000, 1, 1152, 0, 0xFFE5EA00⟩ := by decide
/-- 95 section 2.7, mono. -/
theorem test_step_hdrM25L3 : rspAfter (step (State.reset.withFetchWord 32 0xFFE3E8C0)) = some ⟨0, 4, 1440, 8000, 0, 576, 0, 0xFFE3E8C0⟩ := by decide
/-- 95 P2: the literal polarity rejects MPEG1 Layer II at 128 kbps. -/
theorem test_step_m1L2_rejects : rspAfter (step (State.reset.withFetchWord 32 0xFFFD8000)) =
    some ⟨2, 0, 0, 0, 0, 0, 7, 0xFFFD8000⟩ := by decide

/-- Tables with `T_SR[0][3] = 0`, as 95 section 2.5 names them. -/
def zeroRateTables : Tables := { defaultTables with sampleRate := #v[#v[11025, 0, 22050, 0], #v[12000, 0, 24000, 48000],
  #v[8000, 0, 16000, 32000], #v[0, 0, 0, 0]] }

/-- Tables whose map sends every header to the reserved column. -/
def reservedColumnTables : Tables := { defaultTables with vlMap := #v[#v[5, 5, 5, 5], #v[5, 5, 5, 5], #v[5, 5, 5, 5], #v[5, 5, 5, 5]] }

/-- 95 section 2.5: a zero sample rate gives INVALID(9). -/
theorem test_zero_rate : rspAfter (exec (.decode 4 0xFFFB9000) { State.reset with rom := zeroRateTables }) =
    some ⟨2, 0, 0, 0, 0, 0, 9, 0xFFFB9000⟩ := by decide
/-- 42 R141: column 5 gives INVALID(8). -/
theorem test_reserved_column : rspAfter (exec (.hdrM1L3 (parseHeader 0xFFFB9000)) { State.reset with rom := reservedColumnTables }) =
    some ⟨2, 0, 0, 0, 0, 0, 8, 0xFFFB9000⟩ := by decide

/-! ### The tables, at the cells the rules name -/

/-- 42 R140, R142, R144 examples: column 2, 128 kbps, 44100 Hz, 8000 Hz. -/
theorem test_lookup_examples : lookupColumn defaultTables mpeg1 layerIII = 2 ∧ lookupBitrate defaultTables 9 2 = 128 ∧
    lookupSampleRate defaultTables 0 mpeg1 = 44100 ∧ lookupSampleRate defaultTables 2 mpeg25 = 8000 := by decide
/-- 41 R130 examples: cell [8][0] = 1, cell [1][3] = 0. -/
theorem test_l2_cells : lookupL2Allowed defaultTables 8 0 = 1 ∧ lookupL2Allowed defaultTables 1 3 = 0 := by decide

/-! ### The width parameters of R7 -/

/-- The narrowest widths that carry every decode: a length of 3 bits, a size of 13, products of 26 (R165, R166). -/
def narrowWidths : Widths := ⟨3, 13, 16, 11, 26⟩

/-- 00 R7, 95 V1: the default widths, and V1's response at the narrowest. -/
theorem test_widths : State.reset.widths = ⟨32, 16, 16, 11, 32⟩ ∧
    rspAfter (step { emptyAt (offer 4 0xFFFB9064 false) with widths := narrowWidths }) = some v1 := by decide
/-- 95 section 2.6, the largest size, at the narrowest widths. -/
theorem test_largest_size_narrowest : rspAfter (exec (.decode 4 0xFFE5EA00) { State.reset with widths := narrowWidths }) =
    some ⟨0, 4, 2881, 8000, 1, 1152, 0, 0xFFE5EA00⟩ := by decide
/-- A `req_len` of 2 bits never reaches 4 (R7, R43). -/
theorem test_two_bit_length : rspAfter (step { emptyAt (offer 3 0xFFFB9064 false) with
    widths := { Widths.default with lenW := 2 } }) = some ⟨1, 0, 0, 0, 0, 0, 1, 0⟩ := by decide

/-! ### The handshake, edges of program P3 -/

/-- e0: reset; the presented request is not accepted. -/
theorem test_edge_reset : validAfter (step (emptyAt resetting)) = some false := by decide
/-- e2: a stall holds the response. -/
theorem test_edge_stall : rspAfter (step (fullAt (offer 4 0xFFFD8000 false))) = some v1 := by decide
/-- e3: take and accept on one edge. -/
theorem test_edge_take_and_accept : rspAfter (step (fullAt (offer 4 0xFFFD8000 true))) =
    some ⟨2, 0, 0, 0, 0, 0, 7, 0xFFFD8000⟩ := by decide
/-- e4: take alone. -/
theorem test_edge_take : validAfter (step (fullAt (quiet true))) = some false := by decide
/-- e5: idle, past the end of the inputs. -/
theorem test_edge_idle : validAfter (step State.reset) = some false := by decide
/-- e6: a short request. -/
theorem test_edge_accept_short : rspAfter (step (emptyAt (offer 2 0x12345678 false))) = some ⟨1, 0, 0, 0, 0, 0, 1, 0⟩ := by decide
/-- e7: a reset discards the waiting response. -/
theorem test_edge_reset_discards : validAfter (step (fullAt resetting)) = some false := by decide
/-- R104, e0 to e4: `req_ready` in each case. -/
theorem test_ready : (portsOut (emptyAt resetting) resetting).reqReady = false ∧
    (portsOut State.reset (quiet false)).reqReady = true ∧ (portsOut (fullAt (quiet false)) (quiet false)).reqReady = false ∧
    (portsOut (fullAt (quiet true)) (quiet true)).reqReady = true := by decide

/-! ### Witnesses: each statement's hypotheses are met, at a boundary where it has one -/

theorem witness_DecodeOfEncodeIsTheRow :
    (Instr.hdrM1L3 (parseHeader 0xFFFB9064)).isMapRow = true ∧ (Instr.hdrM1L3 (parseHeader 0xFFFB9064)).wf = true := by decide
theorem witness_EncodeOfDecode_short : decode ⟨3, 0xFFFB9064⟩ = some (.needMore 3 0xFFFB9064) := by decide
theorem witness_EncodeOfDecode_long : decode ⟨4, 0xFFE38000⟩ = some (.hdrM25L3 (parseHeader 0xFFE38000)) := by decide
theorem witness_MapRowsAgreeWithDecode : decode ⟨0xFFFFFFFF, 0xFFFD10C0⟩ = some (.hdrM1L2 (parseHeader 0xFFFD10C0)) := by decide
theorem witness_ShortRequestNeedsMore : (3 : Nat) < 4 ∧ (0 : Nat) < 4 := by decide
theorem witness_LengthBeyondFourHasNoEffect : 4 ≤ (4 : Nat) ∧ 4 ≤ (0xFFFFFFFF : Nat) := by decide
theorem witness_InformationalFieldsDoNotMatter : 4 ≤ (4 : Nat) ∧
    { parseHeader 0xFFFB9064 with prot := 0#1, priv := 0#1, other := 0#6 } =
      { parseHeader 0xFFFA9142 with prot := 0#1, priv := 0#1, other := 0#6 } := by decide
theorem witness_ChannelModeChangesOnlyLayout : 4 ≤ (4 : Nat) ∧ (parseHeader 0xFFFB9000).layer ≠ 0b10#2 ∧
    { parseHeader 0xFFFB9000 with cm := 0#2 } = { parseHeader 0xFFFB90C0 with cm := 0#2 } := by decide

/-- V2 and V3: `0xFFFF1800` and its padded form. -/
theorem witness_PaddingAddsOneSlot_layerI : tablesOk State.reset.rom = true ∧ State.reset.widths.ok = true ∧
    parseHeader 0xFFFF1A00 = { parseHeader 0xFFFF1800 with padding := 1#1 } ∧ (parseHeader 0xFFFF1800).padding = 0#1 ∧
    ∃ t, exec (.decode 4 0xFFFF1800) State.reset = .next t ∧ t.rsp.status = 0#2 :=
  ⟨by decide, by decide, by decide, by decide, _, rfl, by decide⟩
/-- V1 and V3: `0xFFFB9000` and its padded form. -/
theorem witness_PaddingAddsOneSlot_layerIII : tablesOk State.reset.rom = true ∧ State.reset.widths.ok = true ∧
    parseHeader 0xFFFB9200 = { parseHeader 0xFFFB9000 with padding := 1#1 } ∧ (parseHeader 0xFFFB9000).padding = 0#1 ∧
    ∃ t, exec (.decode 4 0xFFFB9000) State.reset = .next t ∧ t.rsp.status = 0#2 :=
  ⟨by decide, by decide, by decide, by decide, _, rfl, by decide⟩

theorem witness_LayerIRowsAnswerOk : tablesOk State.reset.rom = true ∧ State.reset.widths.ok = true ∧
    ∀ version ∈ [0b11#2, 0b10#2, 0b00#2],
    lookupBitrate State.reset.rom 1 (lookupColumn State.reset.rom version 0b11#2) ≠ 0#9 ∧
    lookupSampleRate State.reset.rom 2 version ≠ 0#16 :=
  ⟨by decide, by decide, by decide⟩
theorem witness_LayerIIRowsAnswerOk : tablesOk State.reset.rom = true ∧ State.reset.widths.ok = true ∧
    lookupL2Allowed State.reset.rom 14 0 = 0#1 ∧ ∀ version ∈ [0b11#2, 0b10#2, 0b00#2],
    lookupBitrate State.reset.rom 14 (lookupColumn State.reset.rom version 0b10#2) ≠ 0#9 ∧
    lookupSampleRate State.reset.rom 0 version ≠ 0#16 :=
  ⟨by decide, by decide, by decide, by decide⟩
theorem witness_LayerIIIRowsAnswerOk : tablesOk State.reset.rom = true ∧ State.reset.widths.ok = true ∧
    ∀ version ∈ [0b11#2, 0b10#2, 0b00#2],
    lookupBitrate State.reset.rom 14 (lookupColumn State.reset.rom version 0b01#2) ≠ 0#9 ∧
    lookupSampleRate State.reset.rom 2 version ≠ 0#16 :=
  ⟨by decide, by decide, by decide⟩
theorem witness_LayerIICombinationRejects : lookupL2Allowed State.reset.rom 8 0 = 1#1 := by decide
theorem witness_ZeroEntriesReject_bitrate : lookupBitrate reservedColumnTables 1 (lookupColumn reservedColumnTables 0b11#2 0b10#2) = 0#9 ∧
    lookupL2Allowed reservedColumnTables 1 3 = 0#1 := by decide
theorem witness_ZeroEntriesReject_rate : lookupBitrate zeroRateTables 1 (lookupColumn zeroRateTables 0b11#2 0b10#2) ≠ 0#9 ∧
    lookupSampleRate zeroRateTables 0 0b11#2 = 0#16 ∧ lookupL2Allowed zeroRateTables 1 3 = 0#1 := by decide
theorem witness_DefaultTablesReachNoZeroEntry : State.reset.rom = defaultTables ∧
    ∃ t, exec (.decode 4 0xFFFB9000) State.reset = .next t := ⟨rfl, _, rfl⟩
/-- bri 5 with JointStereo, bri 11 with Stereo (accepted), and bri 10 (rejected). -/
theorem witness_DefaultLayerIIPairsAccepted : State.reset.rom = defaultTables ∧ 4 ≤ (4 : Nat) ∧
    ((parseHeader 0xFFFD5040).accepted = true ∧ (parseHeader 0xFFFD5040).layer = 0b10#2) ∧
    ((parseHeader 0xFFFDB000).accepted = true ∧ (parseHeader 0xFFFDB000).layer = 0b10#2) ∧
    ((parseHeader 0xFFFDA000).accepted = true ∧ (parseHeader 0xFFFDA000).layer = 0b10#2) :=
  ⟨rfl, by decide, by decide, by decide, by decide⟩
theorem witness_FrameSizeDoesNotOverflow : 26 ≤ State.reset.widths.arithW ∧ (448#9).toNat ≤ 448 ∧ 8000 ≤ (8000#16).toNat ∧ 8000 ≤ (65535#16).toNat := by decide
theorem witness_ReservedColumnRejects : tablesOk reservedColumnTables = true ∧ (parseHeader 0xFFFD10C0).accepted = true ∧
    lookupL2Allowed reservedColumnTables (parseHeader 0xFFFD10C0).bri (parseHeader 0xFFFD10C0).cm = 0#1 ∧
    lookupColumn reservedColumnTables (parseHeader 0xFFFD10C0).version (parseHeader 0xFFFD10C0).layer = 5 := by decide

theorem witness_StepRunsTheDecodedInstruction :
    accepts (emptyAt (offer 4 0xFFFB9064 false)) (nextPorts (emptyAt (offer 4 0xFFFB9064 false))) = true ∧
    decode (portRequest State.reset.widths (nextPorts (emptyAt (offer 4 0xFFFB9064 false)))) = some (.hdrM1L3 (parseHeader 0xFFFB9064)) := by decide
/-- The four cases of R105: reset, accept (RSP empty; and full with a take), take, no change (empty; stalled). -/
theorem witness_EdgeUpdatesRspAsListed :
    (nextPorts (fullAt resetting)).rstN = false ∧
    ((emptyAt (offer 4 0 false)).rspValid = false ∧ (nextPorts (emptyAt (offer 4 0 false))).reqValid = true ∧
      (nextPorts (emptyAt (offer 0xFFFFFFFF 0 false))).reqLen < 2 ^ State.reset.widths.lenW) ∧
    ((fullAt (offer 4 0 true)).rspValid = true ∧ (nextPorts (fullAt (offer 4 0 true))).rspReady = true) ∧
    ((nextPorts (fullAt (quiet true))).reqValid = false ∧ (nextPorts (fullAt (quiet true))).rspReady = true) ∧
    ((emptyAt (quiet true)).rspValid = false ∧ (nextPorts (emptyAt (quiet true))).reqValid = false) ∧
    ((fullAt (offer 4 0 false)).rspValid = true ∧ (nextPorts (fullAt (offer 4 0 false))).rspReady = false) := by decide
theorem witness_ResetEdgeEmptiesRsp : (nextPorts (fullAt resetting)).rstN = false := by decide
/-- A reset edge, an edge with no request, then a request. -/
theorem witness_FirstRequestAfterResetIsAccepted :
    let s : State := { fullAt resetting with inputs := [resetting, quiet true, offer 4 0 false] }
    (nextPorts s).rstN = false ∧ (∀ p ∈ s.inputs.tail.take 1, p.rstN = false ∨ p.reqValid = false) ∧
    ∃ t, traffic 2 s = some ([], [], t) ∧ (nextPorts t).rstN = true ∧ (nextPorts t).reqValid = true :=
  ⟨rfl, by decide, _, rfl, rfl, rfl⟩
theorem witness_OccupancyFollowsAcceptAndTake : ∃ t, step (fullAt (quiet true)) = .next t := ⟨_, rfl⟩
theorem witness_StalledResponseHolds : (nextPorts (fullAt (offer 4 0 false))).rstN = true ∧
    (fullAt (offer 4 0 false)).rspValid = true ∧ (nextPorts (fullAt (offer 4 0 false))).rspReady = false := by decide
/-- Lost by a take, and lost by a reset. -/
theorem witness_ResponseLostOnlyByTakeOrReset :
    (∃ t, step (fullAt (quiet true)) = .next t ∧ observedRsp t ≠ observedRsp (fullAt (quiet true))) ∧
    (∃ t, step (fullAt resetting) = .next t ∧ observedRsp t ≠ observedRsp (fullAt resetting)) :=
  ⟨⟨_, rfl, by decide⟩, ⟨_, rfl, by decide⟩⟩
theorem witness_StepNeverStops :
    accepts (emptyAt (offer 4 0 false)) (nextPorts (emptyAt (offer 4 0 false))) = true ∧
    (nextPorts (emptyAt (offer 4 0 false))).reqLen < 2 ^ State.reset.widths.lenW := by decide
theorem witness_StepKeepsTables : ∃ t, step (fullAt resetting) = .next t := ⟨_, rfl⟩
theorem witness_SameRequestSameResponse : (emptyAt (offer 4 7 false)).rom = (fullAt (offer 4 7 true)).rom ∧
    (emptyAt (offer 4 7 false)).widths = (fullAt (offer 4 7 true)).widths ∧
    accepts (emptyAt (offer 4 7 false)) (nextPorts (emptyAt (offer 4 7 false))) = true ∧
    accepts (fullAt (offer 4 7 true)) (nextPorts (fullAt (offer 4 7 true))) = true ∧
    (nextPorts (emptyAt (offer 4 7 false))).reqLen = (nextPorts (fullAt (offer 4 7 true))).reqLen ∧
    (nextPorts (emptyAt (offer 4 7 false))).reqData = (nextPorts (fullAt (offer 4 7 true))).reqData :=
  ⟨rfl, rfl, by decide, by decide, rfl, rfl⟩
theorem witness_EmptyPayloadIsUnobservable : (emptyAt (quiet true)).rspValid = false ∧
    (∃ t, step (emptyAt (quiet true)) = .next t) ∧ (∃ t, step { emptyAt (quiet true) with rsp := v1 } = .next t) :=
  ⟨rfl, ⟨_, rfl⟩, ⟨_, rfl⟩⟩
/-- The invariant of a state whose RSP waits: V1's response is legal over the default tables. -/
theorem witness_StepKeepsInvariant : (fullAt (quiet false)).Inv ∧ ∃ t, step (fullAt (quiet false)) = .next t :=
  ⟨⟨by decide, by decide, fun _ => .inl ⟨rfl, rfl, by decide, by decide, ⟨0, mpeg1, by decide⟩, .inr (.inr rfl), rfl⟩⟩, _, rfl⟩
theorem witness_StepKeepsDefaultSizeRange : (fullAt (quiet false)).rom = defaultTables ∧ (fullAt (quiet false)).widths.ok = true ∧
    (24 ≤ (fullAt (quiet false)).rsp.frameSize ∧ (fullAt (quiet false)).rsp.frameSize ≤ 2881) ∧
    ∃ t, step (fullAt (quiet false)) = .next t := ⟨rfl, by decide, by decide, _, rfl⟩
theorem witness_ResponsesLeaveInOrder :
    noReset { fullAt (quiet true) with inputs := [offer 4 0 false, offer 4 0xFFFB9064 true, quiet true] } = true := by decide
theorem witness_PlacedWordRunsNext_header : (tableRequest 32 0xFFFB9064).len < 2 ^ State.reset.widths.lenW ∧
    decodeTableWord 32 0xFFFB9064 = some (.hdrM1L3 (parseHeader 0xFFFB9064)) := by decide
theorem witness_PlacedWordRunsNext_request : (tableRequest 64 0xFFFFFFFF00000000).len < 2 ^ State.reset.widths.lenW ∧
    decodeTableWord 64 0xFFFFFFFF00000000 = some (.decode 0xFFFFFFFF 0) := by decide
theorem witness_DecodeIsTheListing : tablesOk State.reset.rom = true ∧ State.reset.widths.ok = true := by decide
/-- The default widths beside the narrowest. -/
theorem witness_FittingWidthsGiveTheSameResponse :
    tablesOk State.reset.rom = true ∧ State.reset.widths.ok = true ∧ narrowWidths.ok = true := by decide
/-- A response waits; and a reset edge, whose payload is free values. -/
theorem witness_StepKeepsPortsFit : (fullAt (quiet false)).PortsFit ∧ (fullAt resetting).PortsFit ∧
    (∃ t, step (fullAt (quiet false)) = .next t) ∧ ∃ t, step (fullAt resetting) = .next t :=
  ⟨by unfold State.PortsFit; decide, by unfold State.PortsFit; decide, ⟨_, rfl⟩, ⟨_, rfl⟩⟩
/-- Lengths 3 and 4, either side of the boundary. -/
theorem witness_LengthActsThroughItsPort :
    accepts (emptyAt (offer 3 0 false)) (nextPorts (emptyAt (offer 3 0 false))) = true ∧
    accepts (emptyAt (offer 4 0 false)) (nextPorts (emptyAt (offer 4 0 false))) = true := by decide

end Sys2Proof.Tests
end

section
/-! How `rsp_valid` moves at an edge (R24): what an instruction and a reset edge do to it, and the statement made of them. -/

namespace Sys2Proof.Machine

/-- A request is accepted only while `rst_n = 1` (R103). -/
theorem accepts_of_rstN_false {s : State} {p : PortsIn} (h : p.rstN = false) : accepts s p = false := by
  simp [accepts, h]

/-- Whatever an instruction answers, it leaves RSP full (R100). -/
theorem exec_next_rspValid {i : Instr} {s t : State} (h : exec i s = .next t) : t.rspValid = true := by
  obtain ⟨r, hr⟩ := exec_writes_one_response i s
  obtain rfl : writeRsp r s = t := by simpa [hr] using h
  exact writeRsp_rspValid r s

/-- Settles O33: each of the four edges of `step_cases` puts `rsp_valid` where R24 says. -/
theorem occupancyFollowsAcceptAndTake : Obligations.OccupancyFollowsAcceptAndTake := by
  intro s t h
  obtain ⟨hreset, rfl⟩ | ⟨-, haccept, i, -, hexec⟩ | ⟨-, haccept, htake, rfl⟩ | ⟨hrun, haccept, htake, rfl⟩ :=
    step_cases h
  · simp [accepts_of_rstN_false hreset, hreset]
  · simp [exec_next_rspValid hexec, haccept]
  · simp [haccept, htake]
  · simp [hrun, haccept, htake]

end Sys2Proof.Machine
end

section
/-! The request window (R41, R42): a byte string as a number, and the bytes of a word. -/

namespace Sys2Proof.Machine

/-- Appending bit vectors is a positional sum: the left one counts in units of the right one's range. -/
theorem toNat_append_eq_add {m n : Nat} (x : BitVec m) (y : BitVec n) :
    (x ++ y).toNat = x.toNat * 2 ^ n + y.toNat := by
  rw [BitVec.toNat_append, ← Nat.shiftLeft_add_eq_or_of_lt y.isLt, Nat.shiftLeft_eq]

theorem windowWord_toNat (b0 b1 b2 b3 : Byte) :
    (windowWord b0 b1 b2 b3).toNat = b0.toNat * 2 ^ 24 + b1.toNat * 2 ^ 16 + b2.toNat * 2 ^ 8 + b3.toNat := by
  simp only [windowWord, toNat_append_eq_add]
  omega

theorem byte0_toNat (data : Word) : (byte0 data).toNat = data.toNat / 2 ^ 24 := by
  simp only [byte0, BitVec.extractLsb'_toNat, Nat.shiftRight_eq_div_pow]
  omega

theorem byte1_toNat (data : Word) : (byte1 data).toNat = data.toNat / 2 ^ 16 % 256 := by
  simp [byte1, Nat.shiftRight_eq_div_pow]

theorem byte2_toNat (data : Word) : (byte2 data).toNat = data.toNat / 2 ^ 8 % 256 := by
  simp [byte2, Nat.shiftRight_eq_div_pow]

theorem byte3_toNat (data : Word) : (byte3 data).toNat = data.toNat % 256 := by
  simp [byte3]

/-- The window of a word's own bytes is the word. -/
theorem windowWord_bytes (data : Word) :
    windowWord (byte0 data) (byte1 data) (byte2 data) (byte3 data) = data := by
  apply BitVec.eq_of_toNat_eq
  rw [windowWord_toNat, byte0_toNat, byte1_toNat, byte2_toNat, byte3_toNat]
  omega

/-- Settles O3: the word's value is the positional sum of its bytes, each byte is a digit of it in base 256, and the digits
determine the word. -/
theorem windowIsMostSignificantByteFirst : Obligations.WindowIsMostSignificantByteFirst :=
  ⟨windowWord_toNat, fun data =>
    ⟨byte0_toNat data, byte1_toNat data, byte2_toNat data, byte3_toNat data, windowWord_bytes data⟩⟩

end Sys2Proof.Machine
end

section
/-! What a request's length decides (R43, R44): only whether it is below four. -/

namespace Sys2Proof.Machine

/-- Settles O10: DECODE's length check and the map row both answer the one NEED_MORE response. -/
theorem shortRequestNeedsMore : Obligations.ShortRequestNeedsMore := by
  intro len data s hshort
  refine ⟨?_, exec_needMore len data s⟩
  rw [exec_decode, decodeFunction_of_short _ _ _ hshort]
  rfl

/-- Settles O11: past the length check the listing reads only the data. -/
theorem lengthBeyondFourHasNoEffect : Obligations.LengthBeyondFourHasNoEffect := by
  intro len len' data s hlen hlen'
  rw [exec_decode, exec_decode, decodeFunction_of_long _ _ _ hlen.not_gt, decodeFunction_of_long _ _ _ hlen'.not_gt]

end Sys2Proof.Machine
end

section
/-! The response is a function of the request and of what was fixed at build (R46): the decode map covers every request, and
an instruction reads no field of the state but the tables and the widths. -/

namespace Sys2Proof

theorem code_cases : ∀ v : BitVec 2, v = 0b00#2 ∨ v = 0b01#2 ∨ v = 0b10#2 ∨ v = 0b11#2 := by decide

/-- "The rows cover every value" (R84): a word that passes the sync, version and layer rows has one of the nine pairs of
version and layer, and so matches a row of order 7 if no earlier one. -/
theorem decodeMap_covers (w : Word) : (decodeMap.find? (rowMatches · w)).isSome = true := by
  simp only [List.find?_isSome, decodeMap, List.exists_mem_cons_iff, rowMatches, bne_iff_ne, beq_iff_eq, ne_eq,
    syncErr_iff, verRes_iff, layerRes_iff, m1L1_iff, m1L2_iff, m1L3_iff, m2L1_iff, m2L2_iff, m2L3_iff, m25L1_iff,
    m25L2_iff, m25L3_iff]
  by_cases hsync : (parseHeader w).sync = 0x7FF#11
  case neg => exact .inl hsync
  obtain hv | hv | hv | hv := code_cases (parseHeader w).version <;>
    obtain hl | hl | hl | hl := code_cases (parseHeader w).layer <;>
    simp [hsync, hv, hl]

/-- Every request is a row of the decode map (R84). -/
theorem exists_decode_eq_some (r : Request) : ∃ i, decode r = some i := by
  obtain ⟨len, data⟩ := r
  by_cases hshort : len < 4
  · exact ⟨_, decode_of_short data hshort⟩
  · obtain ⟨row, hrow⟩ := Option.isSome_iff_exists.1 (decodeMap_covers data)
    exact ⟨_, by rw [decode_of_long data hshort, hrow, Option.map_some]⟩

namespace Machine

/-- In two states with the same build an instruction writes the same response, whatever else the states hold. -/
theorem exec_response_of_same_build (i : Instr) {s s' : State} (hrom : s.rom = s'.rom) (hwidths : s.widths = s'.widths) :
    ∃ r, exec i s = .next (writeRsp r s) ∧ exec i s' = .next (writeRsp r s') := by
  have hr : ∀ version layer spf size h, ∃ r, resolve version layer spf size h s = .next (writeRsp r s) ∧
      resolve version layer spf size h s' = .next (writeRsp r s') :=
    fun _ _ _ _ _ => ⟨_, resolve_eq .., by rw [resolve_eq, hrom, hwidths]⟩
  have h1 : ∀ version h, ∃ r, layerIPath version h s = .next (writeRsp r s) ∧
      layerIPath version h s' = .next (writeRsp r s') := by
    intro version h
    simp only [layerIPath_eq, hwidths]
    exact hr ..
  have h2 : ∀ version h, ∃ r, layerIIPath version h s = .next (writeRsp r s) ∧
      layerIIPath version h s' = .next (writeRsp r s') := by
    intro version h
    simp only [layerIIPath_eq, hrom, hwidths]
    split
    · exact ⟨_, rfl, rfl⟩
    · exact hr ..
  have h3 : ∀ version spf h, ∃ r, layerIIIPath version spf h s = .next (writeRsp r s) ∧
      layerIIIPath version spf h s' = .next (writeRsp r s') := by
    intro version spf h
    simp only [layerIIIPath_eq, hwidths]
    exact hr ..
  cases i
  case decode => exact ⟨_, rfl, by rw [exec_decode, hrom, hwidths]⟩
  case needMore => exact ⟨_, rfl, rfl⟩
  case hdrSyncErr => exact ⟨_, rfl, rfl⟩
  case hdrVerRes => exact ⟨_, rfl, rfl⟩
  case hdrLayerRes => exact ⟨_, rfl, rfl⟩
  case hdrBriFree => exact ⟨_, rfl, rfl⟩
  case hdrBriBad => exact ⟨_, rfl, rfl⟩
  case hdrSriRes => exact ⟨_, rfl, rfl⟩
  case hdrM1L1 => exact h1 ..
  case hdrM1L2 => exact h2 ..
  case hdrM1L3 => exact h3 ..
  case hdrM2L1 => exact h1 ..
  case hdrM2L2 => exact h2 ..
  case hdrM2L3 => exact h3 ..
  case hdrM25L1 => exact h1 ..
  case hdrM25L2 => exact h2 ..
  case hdrM25L3 => exact h3 ..

@[simp] theorem observedRsp_writeRsp (r : Response) (s : State) : observedRsp (writeRsp r s) = some r := rfl

/-- An accepting edge runs the row of the decode map that its request is (R84, R105). -/
theorem step_of_accepts {s : State} {i : Instr} (haccept : accepts s (nextPorts s) = true)
    (hdecode : decode (portRequest s.widths (nextPorts s)) = some i) : step s = exec i (advance s) := by
  have hrun : (nextPorts s).rstN ≠ false := fun hreset => by simp [accepts_of_rstN_false hreset] at haccept
  simp [step, hrun, haccept, hdecode]

/-- Settles O38: both edges run the same row of the map, and it writes the same response over the same build. -/
theorem sameRequestSameResponse : Obligations.SameRequestSameResponse := by
  intro s s' hrom hwidths haccept haccept' hlen hdata
  have hrequest : portRequest s'.widths (nextPorts s') = portRequest s.widths (nextPorts s) := by
    rw [portRequest, portRequest, hwidths, hlen, hdata]
  obtain ⟨i, hdecode⟩ := exists_decode_eq_some (portRequest s.widths (nextPorts s))
  obtain ⟨r, hexec, hexec'⟩ := exec_response_of_same_build i (s := advance s) (s' := advance s') hrom hwidths
  refine ⟨_, _, (step_of_accepts haccept hdecode).trans hexec,
    (step_of_accepts haccept' (hrequest ▸ hdecode)).trans hexec', ?_, ?_⟩ <;> simp

end Machine
end Sys2Proof
end

section
/-! The outcomes of a decode (R182, R183, R185): every instruction writes one of the three results to RSP. -/

namespace Sys2Proof.Machine

/-- A response that one of the three results builds, whatever numbers, diagnostic or word it carries. -/
inductive IsResult (ws : Widths) : Response → Prop
  | ok (fs : Nat) (sr : BitVec 16) (layout : BitVec 1) (spf : Nat) (w : Word) : IsResult ws (okResponse ws fs sr layout spf w)
  | needMore : IsResult ws needMoreResponse
  | invalid (code : BitVec 4) (w : Word) : IsResult ws (invalidResponse code w)

theorem decodeFunction_isResult (t : Tables) (ws : Widths) (len : Nat) (data : Word) :
    IsResult ws (decodeFunction t ws len data) := by
  by_cases hshort : len < 4
  · rw [decodeFunction_of_short t ws data hshort]
    exact .needMore
  · rw [decodeFunction_of_long t ws data hshort]
    obtain ⟨code, -, -, hinvalid⟩ | ⟨-, -, -, -, hok⟩ := decodeHeader_cases t ws (parseHeader data) data
    · exact hinvalid ▸ .invalid ..
    · exact hok ▸ .ok ..

theorem resolve_writes_result (version layer : BitVec 2) (spf : Nat) (size : BitVec 9 → BitVec 16 → Nat) (h : Header)
    (s : State) : ∃ r, resolve version layer spf size h s = .next (writeRsp r s) ∧ IsResult s.widths r := by
  refine ⟨_, resolve_eq .., ?_⟩
  split
  · exact .invalid ..
  · split
    · exact .invalid ..
    · exact .ok ..

theorem layerIPath_writes_result (version : BitVec 2) (h : Header) (s : State) :
    ∃ r, layerIPath version h s = .next (writeRsp r s) ∧ IsResult s.widths r := resolve_writes_result ..

theorem layerIIIPath_writes_result (version : BitVec 2) (spf : Nat) (h : Header) (s : State) :
    ∃ r, layerIIIPath version spf h s = .next (writeRsp r s) ∧ IsResult s.widths r := resolve_writes_result ..

theorem layerIIPath_writes_result (version : BitVec 2) (h : Header) (s : State) :
    ∃ r, layerIIPath version h s = .next (writeRsp r s) ∧ IsResult s.widths r := by
  rw [layerIIPath_eq]
  split
  · exact ⟨_, rfl, .invalid ..⟩
  · exact resolve_writes_result ..

/-- Every instruction writes one of the three results, at the state's widths (R100, R201). -/
theorem exec_writes_result (i : Instr) (s : State) : ∃ r, exec i s = .next (writeRsp r s) ∧ IsResult s.widths r := by
  cases i
  case decode => exact ⟨_, exec_decode .., decodeFunction_isResult ..⟩
  case needMore => exact ⟨_, exec_needMore .., .needMore⟩
  case hdrSyncErr => exact ⟨_, rfl, .invalid ..⟩
  case hdrVerRes => exact ⟨_, rfl, .invalid ..⟩
  case hdrLayerRes => exact ⟨_, rfl, .invalid ..⟩
  case hdrBriFree => exact ⟨_, rfl, .invalid ..⟩
  case hdrBriBad => exact ⟨_, rfl, .invalid ..⟩
  case hdrSriRes => exact ⟨_, rfl, .invalid ..⟩
  case hdrM1L1 => exact layerIPath_writes_result ..
  case hdrM1L2 => exact layerIIPath_writes_result ..
  case hdrM1L3 => exact layerIIIPath_writes_result ..
  case hdrM2L1 => exact layerIPath_writes_result ..
  case hdrM2L2 => exact layerIIPath_writes_result ..
  case hdrM2L3 => exact layerIIIPath_writes_result ..
  case hdrM25L1 => exact layerIPath_writes_result ..
  case hdrM25L2 => exact layerIIPath_writes_result ..
  case hdrM25L3 => exact layerIIIPath_writes_result ..

/-- Settles O24: each of the three results carries the count that R108 gives its status. -/
theorem consumedIsFourOnlyOnOk : Obligations.ConsumedIsFourOnlyOnOk := by
  intro i s
  obtain ⟨r, hexec, hresult⟩ := exec_writes_result i s
  refine ⟨_, hexec, ?_⟩
  rw [writeRsp_rsp]
  cases hresult with
  | ok => exact .inl ⟨rfl, rfl⟩
  | needMore => exact .inr (.inl ⟨rfl, rfl⟩)
  | invalid => exact .inr (.inr ⟨rfl, rfl⟩)

end Sys2Proof.Machine
end

section
/-! DECODE over tables that meet R8 and widths that fit: the datapath and the ports are exact there (R165, R166), so that
the response is the one the listing of R102 gives. -/

namespace Sys2Proof.Machine

/-- FS_L1 is exact in at least 26 bits, and its size stays below R165's bound. -/
theorem frameSizeL1_exact {ws : Widths} {br : BitVec 9} {sr : BitVec 16} {padding : BitVec 1} (hw : 26 ≤ ws.arithW)
    (hbr : br.toNat ≤ 448) (hsr : 8000 ≤ sr.toNat) :
    frameSizeL1 ws br sr padding = 4 * (12 * (br.toNat * 1000) / sr.toNat) + 4 * padding.toNat ∧
      4 * (12 * (br.toNat * 1000) / sr.toNat) + 4 * padding.toNat ≤ 8065 := by
  have hrange : 2 ^ 26 ≤ 2 ^ ws.arithW := Nat.pow_le_pow_right (by decide) hw
  have hquotient : 12 * (br.toNat * 1000) / sr.toNat ≤ 5376000 / 8000 := Nat.div_le_div (by omega) hsr (by decide)
  exact ⟨frameSizeL1_of_fits (by omega) (by omega) (by omega), by omega⟩

/-- FS_L23 is exact in at least 26 bits, and its size stays below R165's bound. -/
theorem frameSizeL23_exact {ws : Widths} {spf : Nat} {br : BitVec 9} {sr : BitVec 16} {padding : BitVec 1}
    (hw : 26 ≤ ws.arithW) (hspf : spf ≤ 1152) (hbr : br.toNat ≤ 448) (hsr : 8000 ≤ sr.toNat) :
    frameSizeL23 ws spf br sr padding = spf / 8 * (br.toNat * 1000) / sr.toNat + padding.toNat ∧
      spf / 8 * (br.toNat * 1000) / sr.toNat + padding.toNat ≤ 8065 := by
  have hrange : 2 ^ 26 ≤ 2 ^ ws.arithW := Nat.pow_le_pow_right (by decide) hw
  have hproduct : spf / 8 * (br.toNat * 1000) ≤ 144 * 448000 := Nat.mul_le_mul (by omega) (by omega)
  have hquotient : spf / 8 * (br.toNat * 1000) / sr.toNat ≤ 64512000 / 8000 := Nat.div_le_div hproduct hsr (by decide)
  exact ⟨frameSizeL23_of_fits (by omega) (by omega) (by omega) (by omega) (by omega), by omega⟩

/-- Step 8 of the listing, whichever formula the layer takes (R161, R162). -/
theorem frameSize_exact {ws : Widths} {spf : Nat} {br : BitVec 9} {sr : BitVec 16} {padding : BitVec 1} (layer : BitVec 2)
    (hw : 26 ≤ ws.arithW) (hspf : spf ≤ 1152) (hbr : br.toNat ≤ 448) (hsr : 8000 ≤ sr.toNat) :
    (if layer = layerI then frameSizeL1 ws br sr padding else frameSizeL23 ws spf br sr padding) =
        (if layer = layerI then 4 * (12 * (br.toNat * 1000) / sr.toNat) + 4 * padding.toNat
          else spf / 8 * (br.toNat * 1000) / sr.toNat + padding.toNat) ∧
      (if layer = layerI then 4 * (12 * (br.toNat * 1000) / sr.toNat) + 4 * padding.toNat
        else spf / 8 * (br.toNat * 1000) / sr.toNat + padding.toNat) ≤ 8065 := by
  split
  · exact frameSizeL1_exact hw hbr hsr
  · exact frameSizeL23_exact hw hspf hbr hsr

/-- Ports that fit carry the three numbers of an OK response as they are (R165, R27, R148). -/
theorem okResponse_exact {ws : Widths} {fs spf : Nat} (sr : BitVec 16) (layout : BitVec 1) (w : Word) (hw : ws.ok = true)
    (hfs : fs ≤ 8065) (hspf : spf ≤ 1152) :
    okResponse ws fs sr layout spf w = ⟨0#2, 4#3, fs, sr.toNat, layout, spf, 0#4, w⟩ := by
  obtain ⟨-, hfsW, hsrW, hscW⟩ := (Widths.ok_iff ws).1 hw
  rw [okResponse, narrow_of_le 13 hfsW (by omega), narrow_of_le 16 hsrW sr.isLt, narrow_of_le 11 hscW (by omega)]
  rfl

theorem samplesPerFrame_le (version layer : BitVec 2) : samplesPerFrame version layer ≤ 1152 := by
  revert version layer
  decide

/-- LK_SPF with the accepted version codes told apart by MPEG1 alone (R148). -/
theorem samplesPerFrame_of_version {version : BitVec 2} (layer : BitVec 2) (h : version ≠ versionReserved) :
    samplesPerFrame version layer =
      if layer = 0b11#2 then 384 else if layer = 0b10#2 then 1152 else if version = 0b11#2 then 1152 else 576 := by
  revert version layer
  decide

/-- Settles O8: DECODE's checks are the listing's, one by one in the order of R206; past the last of them the sizes and the
ports are exact. -/
theorem decodeIsTheListing : Obligations.DecodeIsTheListing := by
  intro len data s htables hwidths h br sr spf fs invalid
  obtain ⟨harith, -, -, -⟩ := (Widths.ok_iff _).1 hwidths
  rw [exec_decode]
  refine congrArg (fun r => Host.Outcome.next (writeRsp r s)) ?_
  -- each check in turn: where it fails the two responses are the same, else both go on to the next
  refine ite_congr rfl (fun _ => rfl) fun _ => ?_
  refine ite_congr rfl (fun _ => rfl) fun _ => ?_
  refine ite_congr rfl (fun _ => rfl) fun hversion => ?_
  refine ite_congr rfl (fun _ => rfl) fun _ => ?_
  refine ite_congr rfl (fun _ => rfl) fun _ => ?_
  refine ite_congr rfl (fun _ => rfl) fun _ => ?_
  refine ite_congr rfl (fun _ => rfl) fun _ => ?_
  refine ite_congr rfl (fun _ => rfl) fun _ => ?_
  refine ite_congr rfl (fun _ => rfl) fun hrate => ?_
  have hbr : br.toNat ≤ 448 := lookupBitrate_le htables h.bri _
  have hsr : 8000 ≤ sr.toNat := lookupSampleRate_ge htables h.sri h.version hrate
  have hspf : samplesPerFrame h.version h.layer = spf := samplesPerFrame_of_version h.layer hversion
  have hspfle : spf ≤ 1152 := hspf ▸ samplesPerFrame_le h.version h.layer
  obtain ⟨hfs, hfsle⟩ := frameSize_exact h.layer (padding := h.padding) harith hspfle hbr hsr
  change okResponse s.widths _ sr (mapChannel h.cm) (samplesPerFrame h.version h.layer) data = _
  rw [hspf, hfs, okResponse_exact sr _ data hwidths hfsle hspfle]
  rfl

end Sys2Proof.Machine
end

section
/-! The decode map and the listing agree (R84 inside R102): the row that a request decodes to is the path the listing takes
through it. -/

namespace Sys2Proof.Machine

/-- `accepted`, check by check: what the order-7 rows leave to the lookups (R84). -/
theorem accepted_iff (h : Header) : h.accepted = true ↔
    h.sync = 0x7FF#11 ∧ h.version ≠ versionReserved ∧ h.layer ≠ layerReserved ∧ ¬ (h.bri = 0x0#4 ∨ h.bri = 0xF#4) ∧
      h.sri ≠ 0b11#2 := by
  simp [Header.accepted, Header.briOk, Header.layerOk, Header.versionOk, Header.syncOk, versionReserved, layerReserved,
    and_assoc]

/-- The order-7 row of a header that passes step 3, by its version and layer (R84). -/
def acceptedRow (h : Header) : Instr :=
  if h.version = mpeg1 then
    if h.layer = layerI then .hdrM1L1 h else if h.layer = layerII then .hdrM1L2 h else .hdrM1L3 h
  else if h.version = mpeg2 then
    if h.layer = layerI then .hdrM2L1 h else if h.layer = layerII then .hdrM2L2 h else .hdrM2L3 h
  else
    if h.layer = layerI then .hdrM25L1 h else if h.layer = layerII then .hdrM25L2 h else .hdrM25L3 h

/-- The HDR32 row of a header: the first check of step 3 that fails, or its order-7 row (R84, R206). -/
def headerRow (h : Header) : Instr :=
  if h.sync ≠ 0x7FF#11 then .hdrSyncErr h
  else if h.version = versionReserved then .hdrVerRes h
  else if h.layer = layerReserved then .hdrLayerRes h
  else if h.bri = 0x0#4 then .hdrBriFree h
  else if h.bri = 0xF#4 then .hdrBriBad h
  else if h.sri = 0b11#2 then .hdrSriRes h
  else acceptedRow h

/-- The first match of a list, one entry at a time. -/
theorem map_find?_cons {α β : Type} (p : α → Bool) (f : α → β) (a : α) (l : List α) :
    ((a :: l).find? p).map f = if p a = true then some (f a) else (l.find? p).map f := by
  rw [List.find?_cons]
  split <;> simp [*]

/-- The first matching mask of the map is the row chosen by the parsed fields (R84): the masks compare the checks of step 3
in their order, and then one version and layer after another. -/
theorem decode_of_long_eq_headerRow {len : Nat} (data : Word) (hlong : ¬ len < 4) :
    decode ⟨len, data⟩ = some (headerRow (parseHeader data)) := by
  rw [decode_of_long data hlong]
  simp only [decodeMap, map_find?_cons, rowMatches, bne_iff_ne, beq_iff_eq, ne_eq, classInstr,
    syncErr_iff, verRes_iff, layerRes_iff, briFree_iff, briBad_iff, sriRes_iff, m1L1_iff, m1L2_iff, m1L3_iff, m2L1_iff,
    m2L2_iff, m2L3_iff, m25L1_iff, m25L2_iff, m25L3_iff]
  generalize parseHeader data = h
  by_cases hsync : h.sync = 0x7FF#11
  case neg => simp [headerRow, hsync]
  obtain hv | hv | hv | hv := code_cases h.version <;>
    obtain hl | hl | hl | hl := code_cases h.layer <;>
    simp [headerRow, acceptedRow, hsync, hv, hl, apply_ite some, versionReserved, layerReserved, mpeg1, mpeg2, layerI, layerII]

/-- Past step 3 the listing is the Layer II combination check and the lookups (R102, steps 4 to 10). -/
theorem decodeHeader_of_accepted (t : Tables) (ws : Widths) {h : Header} (w : Word) (ha : h.accepted = true) :
    decodeHeader t ws h w =
      if h.layer = layerII ∧ lookupL2Allowed t h.bri h.cm = 1#1 then invalidResponse diagL2Combination w
      else if lookupBitrate t h.bri (lookupColumn t h.version h.layer) = 0#9 then invalidResponse diagBitrateZero w
      else if lookupSampleRate t h.sri h.version = 0#16 then invalidResponse diagSampleRateZero w
      else okResponse ws
        (if h.layer = layerI then
          frameSizeL1 ws (lookupBitrate t h.bri (lookupColumn t h.version h.layer)) (lookupSampleRate t h.sri h.version) h.padding
        else
          frameSizeL23 ws (samplesPerFrame h.version h.layer) (lookupBitrate t h.bri (lookupColumn t h.version h.layer))
            (lookupSampleRate t h.sri h.version) h.padding)
        (lookupSampleRate t h.sri h.version) (mapChannel h.cm) (samplesPerFrame h.version h.layer) w := by
  obtain ⟨hsync, hversion, hlayer, hbri, hsri⟩ := (accepted_iff h).1 ha
  rw [decodeHeader, if_neg (not_not.2 hsync), if_neg hversion, if_neg hlayer, if_neg hbri, if_neg hsri]

/-- An order-7 row takes the path of its layer, with the header's own version in the place of the constructor's. -/
theorem exec_acceptedRow {h : Header} (s : State) (hversion : h.version ≠ versionReserved) :
    exec (acceptedRow h) s =
      if h.layer = layerI then layerIPath h.version h s
      else if h.layer = layerII then layerIIPath h.version h s
      else layerIIIPath h.version (samplesPerFrame h.version layerIII) h s := by
  obtain hv | hv | hv | hv := code_cases h.version
  · rw [acceptedRow, hv, if_neg (show 0b00#2 ≠ mpeg1 by decide), if_neg (show 0b00#2 ≠ mpeg2 by decide)]
    split_ifs <;> rfl
  · exact absurd hv hversion
  · rw [acceptedRow, hv, if_neg (show 0b10#2 ≠ mpeg1 by decide), if_pos (show 0b10#2 = mpeg2 from rfl)]
    split_ifs <;> rfl
  · rw [acceptedRow, hv, if_pos (show 0b11#2 = mpeg1 from rfl)]
    split_ifs <;> rfl

/-- Past step 3 an order-7 row takes the rest of the listing, for its layer (R102, steps 4 to 10). -/
theorem exec_acceptedRow_eq_listing {h : Header} (s : State) (ha : h.accepted = true) :
    exec (acceptedRow h) s = .next (writeRsp (decodeHeader s.rom s.widths h (headerWord h)) s) := by
  obtain ⟨-, hversion, hlayer, -⟩ := (accepted_iff h).1 ha
  rw [exec_acceptedRow s hversion, decodeHeader_of_accepted _ _ _ ha]
  obtain hl | hl | hl | hl := code_cases h.layer
  · exact absurd hl hlayer
  · simp [hl, layerI, layerII, layerIII, layerIIIPath_eq, resolve_eq]
  · by_cases hcell : lookupL2Allowed s.rom h.bri h.cm = 1#1 <;>
      simp [hl, hcell, layerI, layerII, layerIIPath_eq, resolve_eq, samplesPerFrame]
  · simp [hl, layerI, layerII, layerIPath_eq, resolve_eq, samplesPerFrame]

/-! The response of each rejecting row (R84 orders 1 to 6). -/

theorem exec_hdrSyncErr (h : Header) (s : State) :
    exec (.hdrSyncErr h) s = .next (writeRsp (invalidResponse diagSync (headerWord h)) s) := rfl
theorem exec_hdrVerRes (h : Header) (s : State) :
    exec (.hdrVerRes h) s = .next (writeRsp (invalidResponse diagVersion (headerWord h)) s) := rfl
theorem exec_hdrLayerRes (h : Header) (s : State) :
    exec (.hdrLayerRes h) s = .next (writeRsp (invalidResponse diagLayer (headerWord h)) s) := rfl
theorem exec_hdrBriFree (h : Header) (s : State) :
    exec (.hdrBriFree h) s = .next (writeRsp (invalidResponse diagBitrateIndex (headerWord h)) s) := rfl
theorem exec_hdrBriBad (h : Header) (s : State) :
    exec (.hdrBriBad h) s = .next (writeRsp (invalidResponse diagBitrateIndex (headerWord h)) s) := rfl
theorem exec_hdrSriRes (h : Header) (s : State) :
    exec (.hdrSriRes h) s = .next (writeRsp (invalidResponse diagSampleRateIndex (headerWord h)) s) := rfl

/-- The row of a header does what the listing does with the header's word: at each check of step 3 both reject, or both go
on. -/
theorem exec_headerRow (h : Header) (s : State) :
    exec (headerRow h) s = .next (writeRsp (decodeHeader s.rom s.widths h (headerWord h)) s) := by
  by_cases hsync : h.sync = 0x7FF#11
  case neg => simp [headerRow, decodeHeader, hsync, exec_hdrSyncErr]
  by_cases hversion : h.version = versionReserved
  case pos => simp [headerRow, decodeHeader, hsync, hversion, exec_hdrVerRes]
  by_cases hlayer : h.layer = layerReserved
  case pos => simp [headerRow, decodeHeader, hsync, hversion, hlayer, exec_hdrLayerRes]
  by_cases hfree : h.bri = 0x0#4
  case pos => simp [headerRow, decodeHeader, hsync, hversion, hlayer, hfree, exec_hdrBriFree]
  by_cases hbad : h.bri = 0xF#4
  case pos => simp [headerRow, decodeHeader, hsync, hversion, hlayer, hbad, exec_hdrBriBad]
  by_cases hsri : h.sri = 0b11#2
  case pos => simp [headerRow, decodeHeader, hsync, hversion, hlayer, hfree, hbad, hsri, exec_hdrSriRes]
  have haccepted : h.accepted = true := (accepted_iff h).2 ⟨hsync, hversion, hlayer, not_or.2 ⟨hfree, hbad⟩, hsri⟩
  rw [← exec_acceptedRow_eq_listing s haccepted]
  simp [headerRow, hsync, hversion, hlayer, hfree, hbad, hsri]

/-- Whichever row a request decodes to, that row does what DECODE does with the request (R84 inside R102). -/
theorem exec_of_decode {r : Request} {i : Instr} (s : State) (hdecode : decode r = some i) :
    exec i s = exec (.decode r.len r.data) s := by
  obtain ⟨len, data⟩ := r
  rw [exec_decode]
  by_cases hshort : len < 4
  · rw [decode_of_short data hshort, Option.some.injEq] at hdecode
    rw [← hdecode, exec_needMore, decodeFunction_of_short _ _ _ hshort]
  · rw [decode_of_long_eq_headerRow data hshort, Option.some.injEq] at hdecode
    rw [← hdecode, exec_headerRow, headerWord_parseHeader, decodeFunction_of_long _ _ _ hshort]

end Sys2Proof.Machine
end

section
/-! The clocked shell (R103 to R105): the ready output, and what each kind of edge does. -/

namespace Sys2Proof.Machine

theorem reqReady_iff (s : State) (p : PortsIn) :
    reqReady s p = true ↔ p.rstN = true ∧ (s.rspValid = false ∨ p.rspReady = true) := by
  simp [reqReady]

theorem accepts_iff (s : State) (p : PortsIn) :
    accepts s p = true ↔ p.rstN = true ∧ p.reqValid = true ∧ (s.rspValid = false ∨ p.rspReady = true) := by
  simp only [accepts, Bool.and_eq_true, reqReady_iff]
  tauto

theorem takes_iff (s : State) (p : PortsIn) :
    takes s p = true ↔ p.rstN = true ∧ s.rspValid = true ∧ p.rspReady = true := by
  simp [takes, and_assoc]

theorem step_of_reset {s : State} (hreset : (nextPorts s).rstN = false) : step s = .next (resetEdge (advance s)) := by
  simp [step, hreset]

/-- A take without an accept (R105's third case). -/
theorem step_of_takes {s : State} (haccept : accepts s (nextPorts s) = false) (htake : takes s (nextPorts s) = true) :
    step s = .next (takeRsp (advance s)) := by
  have hrun : (nextPorts s).rstN = true := ((takes_iff ..).1 htake).1
  simp [step, hrun, haccept, htake]

/-- Neither a reset nor an accept nor a take (R105's last case). -/
theorem step_of_holds {s : State} (hrun : (nextPorts s).rstN = true) (haccept : accepts s (nextPorts s) = false)
    (htake : takes s (nextPorts s) = false) : step s = .next (advance s) := by
  simp [step, hrun, haccept, htake]

/-- An accepting edge is DECODE of the request, where the port carries the listed length (R7, R105). -/
theorem step_of_accepts_eq_decode {s : State} (haccept : accepts s (nextPorts s) = true)
    (hlen : (nextPorts s).reqLen < 2 ^ s.widths.lenW) :
    step s = exec (.decode (nextPorts s).reqLen (nextPorts s).reqData) (advance s) := by
  obtain ⟨i, hdecode⟩ := exists_decode_eq_some (portRequest s.widths (nextPorts s))
  rw [step_of_accepts haccept hdecode, exec_of_decode _ hdecode, portRequest_len, portRequest_data, Nat.mod_eq_of_lt hlen]

/-- Settles O28: the listed function reads no request input, so that changing them changes nothing. -/
theorem readyIsTheListedFunction : Obligations.ReadyIsTheListedFunction :=
  ⟨reqReady_iff, fun _ _ _ _ _ => rfl⟩

/-- Settles O30: the conditions of R105's four cases are those of reset, accept, take and hold. -/
theorem edgeUpdatesRspAsListed : Obligations.EdgeUpdatesRspAsListed := by
  intro s
  refine ⟨fun hreset => ⟨_, step_of_reset hreset, rfl, rfl, rfl, rfl⟩, ?_, ?_, ?_⟩
  · intro hrun hvalid hfree hlen
    exact step_of_accepts_eq_decode ((accepts_iff ..).2 ⟨hrun, hvalid, hfree⟩) hlen
  · intro hrun hidle hfull hready
    have haccept : accepts s (nextPorts s) = false := by simp [accepts, hidle]
    exact step_of_takes haccept ((takes_iff ..).2 ⟨hrun, hfull, hready⟩)
  · intro hrun hnoaccept hnotake
    apply step_of_holds hrun
    · rw [← Bool.not_eq_true, accepts_iff]
      grind
    · rw [← Bool.not_eq_true, takes_iff]
      grind

end Sys2Proof.Machine
end

section
/-! The parser's fields as numbers (R121): a slice is a digit of the word's value, in the base of the slice's range. -/

namespace Sys2Proof

/-- The `k` bits from bit `lo` up: dividing drops the bits below the slice, the remainder drops those above it. -/
theorem toNat_extractLsb'_eq_div_mod {n : Nat} (w : BitVec n) (lo k : Nat) :
    (w.extractLsb' lo k).toNat = w.toNat / 2 ^ lo % 2 ^ k := by
  rw [BitVec.extractLsb'_toNat, Nat.shiftRight_eq_div_pow]

/-- No bit lies above a slice that ends at the top of the word. -/
theorem toNat_extractLsb'_top {lo k : Nat} (w : BitVec (lo + k)) :
    (w.extractLsb' lo k).toNat = w.toNat / 2 ^ lo := by
  have hlt : w.toNat / 2 ^ lo < 2 ^ k := Nat.div_lt_of_lt_mul (Nat.pow_add 2 lo k ▸ w.isLt)
  rw [toNat_extractLsb'_eq_div_mod, Nat.mod_eq_of_lt hlt]

/-- No bit lies below a slice that starts at bit 0. -/
theorem toNat_extractLsb'_zero {n : Nat} (w : BitVec n) (k : Nat) :
    (w.extractLsb' 0 k).toNat = w.toNat % 2 ^ k := by
  rw [toNat_extractLsb'_eq_div_mod, Nat.pow_zero, Nat.div_one]

/-- Settles O1: the sync is the word's top slice, `other` its bottom one, and the eight fields between them are digits. -/
theorem parserReadsTheListedSlices : Obligations.ParserReadsTheListedSlices := fun w =>
  ⟨toNat_extractLsb'_top (lo := 21) (k := 11) w,
    toNat_extractLsb'_eq_div_mod w 19 2,
    toNat_extractLsb'_eq_div_mod w 17 2,
    toNat_extractLsb'_eq_div_mod w 16 1,
    toNat_extractLsb'_eq_div_mod w 12 4,
    toNat_extractLsb'_eq_div_mod w 10 2,
    toNat_extractLsb'_eq_div_mod w 9 1,
    toNat_extractLsb'_eq_div_mod w 8 1,
    toNat_extractLsb'_eq_div_mod w 6 2,
    toNat_extractLsb'_zero w 6⟩

end Sys2Proof
end

section
/-! No step stops (R205): each of the four edges of R105 answers a next state, the accepting one with the request's response. -/

namespace Sys2Proof.Machine

/-- An accepting edge fills RSP with what Decode gives the request, its length as `req_len` carries it (R7, R100, R105). -/
theorem step_of_accepts_eq_writeRsp {s : State} (haccept : accepts s (nextPorts s) = true) :
    step s = .next (writeRsp (decodeFunction s.rom s.widths ((nextPorts s).reqLen % 2 ^ s.widths.lenW) (nextPorts s).reqData)
      (advance s)) := by
  obtain ⟨i, hdecode⟩ := exists_decode_eq_some (portRequest s.widths (nextPorts s))
  rw [step_of_accepts haccept hdecode, exec_of_decode _ hdecode, exec_decode]
  rfl

/-- An edge that accepts nothing is a reset, a take or a hold, and each of them answers a next state (R105). -/
theorem exists_step_eq_next_of_not_accepts {s : State} (haccept : accepts s (nextPorts s) = false) :
    ∃ t, step s = .next t := by
  cases hrun : (nextPorts s).rstN with
  | false => exact ⟨_, step_of_reset hrun⟩
  | true =>
    cases htake : takes s (nextPorts s) with
    | true => exact ⟨_, step_of_takes haccept htake⟩
    | false => exact ⟨_, step_of_holds hrun haccept htake⟩

/-- Settles O36: an accepting edge writes the request's response, and no other edge stops either. -/
theorem stepNeverStops : Obligations.StepNeverStops := by
  intro s
  cases haccept : accepts s (nextPorts s) with
  | false =>
    obtain ⟨t, hstep⟩ := exists_step_eq_next_of_not_accepts haccept
    exact ⟨t, hstep, fun h => by contradiction⟩
  | true =>
    refine ⟨_, step_of_accepts_eq_writeRsp haccept, fun _ => ⟨writeRsp_rspValid .., fun hlen => ?_⟩⟩
    rw [observedRsp_writeRsp, Nat.mod_eq_of_lt hlen]

end Sys2Proof.Machine
end

section
/-! A reset edge (R230): the block is not ready at it, and RSP is empty after it. -/

namespace Sys2Proof.Machine

theorem reqReady_of_rstN_false {s : State} {p : PortsIn} (h : p.rstN = false) : reqReady s p = false := by
  simp [reqReady, h]

/-- The host observes nothing in an empty RSP (R25). -/
theorem observedRsp_of_rspValid_false {s : State} (h : s.rspValid = false) : observedRsp s = none := by
  simp [observedRsp, h]

/-- Settles O31: a request needs `rst_n = 1` to be accepted, and a reset edge's next state is `resetEdge (advance s)`. -/
theorem resetEdgeEmptiesRsp : Obligations.ResetEdgeEmptiesRsp := by
  intro s hreset
  have hempty : (resetEdge (advance s)).rspValid = false := resetEdge_rspValid _
  exact ⟨reqReady_of_rstN_false hreset, accepts_of_rstN_false hreset,
    resetEdge (advance s), step_of_reset hreset, hempty, observedRsp_of_rspValid_false hempty,
    resetEdge_rom _, resetEdge_widths _⟩

end Sys2Proof.Machine
end

section
/-! Decode and encode (R60 to R65, R84): a header's row is the one row whose condition the header meets, and its request is
the header's word. -/

namespace Sys2Proof.Machine

/-! The conditions of the rows that follow a passed check, as `accepted_iff` reads the last of them. -/

theorem syncOk_iff (h : Header) : h.syncOk = true ↔ h.sync = 0x7FF#11 := by
  simp [Header.syncOk]

theorem versionOk_iff (h : Header) : h.versionOk = true ↔ h.sync = 0x7FF#11 ∧ h.version ≠ versionReserved := by
  simp [Header.versionOk, syncOk_iff, versionReserved]

theorem layerOk_iff (h : Header) :
    h.layerOk = true ↔ h.sync = 0x7FF#11 ∧ h.version ≠ versionReserved ∧ h.layer ≠ layerReserved := by
  simp [Header.layerOk, versionOk_iff, layerReserved, and_assoc]

theorem briOk_iff (h : Header) : h.briOk = true ↔
    h.sync = 0x7FF#11 ∧ h.version ≠ versionReserved ∧ h.layer ≠ layerReserved ∧ h.bri ≠ 0x0#4 ∧ h.bri ≠ 0xF#4 := by
  simp [Header.briOk, layerOk_iff, and_assoc]

theorem acceptedAs_iff (h : Header) (version layer : BitVec 2) :
    h.acceptedAs version layer = true ↔ h.accepted = true ∧ h.version = version ∧ h.layer = layer := by
  simp [Header.acceptedAs, and_assoc]

/-- Past step 3 the row is the one of order 7. -/
theorem headerRow_of_accepted {h : Header} (haccepted : h.accepted = true) : headerRow h = acceptedRow h := by
  obtain ⟨hsync, hversion, hlayer, hbri, hsri⟩ := (accepted_iff h).1 haccepted
  obtain ⟨hfree, hbad⟩ := not_or.1 hbri
  simp [headerRow, hsync, hversion, hlayer, hfree, hbad, hsri]

/-- A HDR32 instruction that is well formed is the row of its own header. -/
theorem headerRow_of_wf {i : Instr} {h : Header} (hoperand : Laws.operandHeader i = some h) (hwf : i.wf = true) :
    headerRow h = i := by
  have horder7 : ∀ version layer, h.acceptedAs version layer = true →
      headerRow h = acceptedRow h ∧ h.version = version ∧ h.layer = layer := by
    intro version layer ha
    obtain ⟨haccepted, hversion, hlayer⟩ := (acceptedAs_iff ..).1 ha
    exact ⟨headerRow_of_accepted haccepted, hversion, hlayer⟩
  cases i <;> cases hoperand
  case hdrSyncErr.refl =>
    simp only [Instr.wf, Bool.not_eq_true', ← Bool.not_eq_true, syncOk_iff] at hwf
    simp [headerRow, hwf]
  case hdrVerRes.refl =>
    simp only [Instr.wf, Bool.and_eq_true, beq_iff_eq, syncOk_iff] at hwf
    simp [headerRow, hwf, versionReserved]
  case hdrLayerRes.refl =>
    simp only [Instr.wf, Bool.and_eq_true, beq_iff_eq, versionOk_iff] at hwf
    simp [headerRow, hwf, layerReserved]
  case hdrBriFree.refl =>
    simp only [Instr.wf, Bool.and_eq_true, beq_iff_eq, layerOk_iff] at hwf
    simp [headerRow, hwf]
  case hdrBriBad.refl =>
    simp only [Instr.wf, Bool.and_eq_true, beq_iff_eq, layerOk_iff] at hwf
    simp [headerRow, hwf]
  case hdrSriRes.refl =>
    simp only [Instr.wf, Bool.and_eq_true, beq_iff_eq, briOk_iff] at hwf
    simp [headerRow, hwf]
  all_goals
    obtain ⟨hrow, hversion, hlayer⟩ := horder7 _ _ hwf
    rw [hrow, acceptedRow, hversion, hlayer]
    rfl

theorem encode_of_operandHeader {i : Instr} {h : Header} (hoperand : Laws.operandHeader i = some h) :
    encode i = ⟨4, headerWord h⟩ := by
  cases i <;> cases hoperand <;> rfl

/-- A map row is DECODE.NEED_MORE or carries a header. -/
theorem isMapRow_cases {i : Instr} (hrow : i.isMapRow = true) :
    (∃ len data, i = .needMore len data) ∨ ∃ h, Laws.operandHeader i = some h := by
  cases i
  case decode => cases hrow
  case needMore => exact .inl ⟨_, _, rfl⟩
  all_goals exact .inr ⟨_, rfl⟩

/-- Settles O4: a short request decodes to NEED_MORE; the word of a header parses to the header, whose row the instruction
is because it is well formed. -/
theorem decodeOfEncodeIsTheRow : Obligations.DecodeOfEncodeIsTheRow := by
  intro i hrow hwf
  obtain ⟨len, data, rfl⟩ | ⟨h, hoperand⟩ := isMapRow_cases hrow
  · exact decode_of_short data (by simpa [Instr.wf] using hwf)
  · rw [encode_of_operandHeader hoperand, decode_of_long_eq_headerRow _ (by decide), parseHeader_headerWord,
      headerRow_of_wf hoperand hwf]

theorem version_cases {version : BitVec 2} (h : version ≠ versionReserved) :
    version = mpeg1 ∨ version = mpeg2 ∨ version = mpeg25 := by
  revert version
  decide

theorem layer_cases {layer : BitVec 2} (h : layer ≠ layerReserved) : layer = layerI ∨ layer = layerII ∨ layer = layerIII := by
  revert layer
  decide

/-- An order-7 row is well formed for the header that chose it. -/
theorem acceptedRow_wf {h : Header} (haccepted : h.accepted = true) :
    Laws.operandHeader (acceptedRow h) = some h ∧ (acceptedRow h).wf = true := by
  obtain ⟨-, hversion, hlayer, -⟩ := (accepted_iff h).1 haccepted
  obtain hv | hv | hv := version_cases hversion <;> obtain hl | hl | hl := layer_cases hlayer <;>
    simp [acceptedRow, hv, hl, mpeg1, mpeg2, mpeg25, layerI, layerII, layerIII, Laws.operandHeader, Instr.wf,
      acceptedAs_iff, haccepted]

/-- The row of a header is well formed and carries the header: the checks before its own have passed. -/
theorem headerRow_wf (h : Header) : Laws.operandHeader (headerRow h) = some h ∧ (headerRow h).wf = true := by
  by_cases hsync : h.sync = 0x7FF#11
  case neg => simp [headerRow, hsync, Laws.operandHeader, Instr.wf, ← Bool.not_eq_true, syncOk_iff]
  by_cases hversion : h.version = versionReserved
  case pos => simp [headerRow, hsync, hversion, Laws.operandHeader, Instr.wf, syncOk_iff, versionReserved]
  by_cases hlayer : h.layer = layerReserved
  case pos => simp [headerRow, hsync, hversion, hlayer, Laws.operandHeader, Instr.wf, versionOk_iff, layerReserved]
  by_cases hfree : h.bri = 0x0#4
  case pos => simp [headerRow, hsync, hversion, hlayer, hfree, Laws.operandHeader, Instr.wf, layerOk_iff]
  by_cases hbad : h.bri = 0xF#4
  case pos => simp [headerRow, hsync, hversion, hlayer, hbad, Laws.operandHeader, Instr.wf, layerOk_iff]
  by_cases hsri : h.sri = 0b11#2
  case pos => simp [headerRow, hsync, hversion, hlayer, hfree, hbad, hsri, Laws.operandHeader, Instr.wf, briOk_iff]
  have haccepted : h.accepted = true := (accepted_iff h).2 ⟨hsync, hversion, hlayer, not_or.2 ⟨hfree, hbad⟩, hsri⟩
  rw [headerRow_of_accepted haccepted]
  exact acceptedRow_wf haccepted

theorem isMapRow_of_operandHeader {i : Instr} {h : Header} (hoperand : Laws.operandHeader i = some h) :
    i.isMapRow = true := by
  cases i <;> cases hoperand <;> rfl

/-- Settles O5: a short request is read as NEED_MORE with its own operands, a longer one as the row of its parsed header,
whose word is the request's data. -/
theorem encodeOfDecodeIsTheRequest : Obligations.EncodeOfDecodeIsTheRequest := by
  rintro ⟨len, data⟩ i hdecode
  by_cases hshort : len < 4
  · rw [decode_of_short data hshort, Option.some.injEq] at hdecode
    simp [← hdecode, Instr.isMapRow, Instr.wf, encode, hshort]
  · rw [decode_of_long_eq_headerRow data hshort, Option.some.injEq] at hdecode
    obtain ⟨hoperand, hwf⟩ := headerRow_wf (parseHeader data)
    rw [hdecode] at hoperand hwf
    refine ⟨isMapRow_of_operandHeader hoperand, hwf, ?_⟩
    rw [encode_of_operandHeader hoperand, headerWord_parseHeader, if_neg hshort]

/-- Settles O6: the row of the parsed header, each comparison of a field read as one of the field's digits (R121). -/
theorem decodeMapSelectsByFields : Obligations.DecodeMapSelectsByFields := by
  intro len w
  by_cases hshort : len < 4
  case pos => rw [decode_of_short w hshort, if_pos hshort]
  obtain ⟨hsync, hversion, hlayer, -, hbri, hsri, -⟩ := parserReadsTheListedSlices w
  rw [decode_of_long_eq_headerRow w hshort, if_neg hshort]
  simp [headerRow, acceptedRow, ← BitVec.toNat_inj, hsync, hversion, hlayer, hbri, hsri, versionReserved, layerReserved,
    mpeg1, mpeg2, layerI, layerII]

/-- Settles O7: five fixed words, read by the map. -/
theorem writtenOutWordsDecode : Obligations.WrittenOutWordsDecode := by
  refine ⟨?_, ?_, ?_, ?_, ?_⟩ <;> decide

/-- Settles O9: `exec_of_decode` is the statement. -/
theorem mapRowsAgreeWithDecode : Obligations.MapRowsAgreeWithDecode := fun _ _ s hdecode => exec_of_decode s hdecode

end Sys2Proof.Machine
end

section
/-! The sequential Bit Reader (R122): a buffer is the bits of a number from the top down, and a read of some of them takes the
slice there. -/

namespace Sys2Proof.Machine

/-- The low `k` bits of `x`, the most significant first (R10). -/
def bitsBelow (x : Nat) : Nat → List Bool
  | 0 => []
  | k + 1 => x.testBit k :: bitsBelow x k

theorem length_bitsBelow (x k : Nat) : (bitsBelow x k).length = k := by
  induction k with
  | zero => rfl
  | succ k ih => rw [bitsBelow, List.length_cons, ih]

theorem take_bitsBelow (x n k : Nat) : (bitsBelow x (n + k)).take n = bitsBelow (x >>> k) n := by
  induction n with
  | zero => rfl
  | succ n ih => rw [Nat.succ_add, bitsBelow, List.take_succ_cons, ih, bitsBelow, Nat.testBit_shiftRight, Nat.add_comm]

theorem drop_bitsBelow (x n k : Nat) : (bitsBelow x (n + k)).drop n = bitsBelow x k := by
  induction n with
  | zero => rw [Nat.zero_add, List.drop_zero]
  | succ n ih => rw [Nat.succ_add, bitsBelow, List.drop_succ_cons, ih]

/-- Reading on from a value `acc` shifts it past the bits read. -/
theorem foldl_bitsBelow (x k acc : Nat) :
    (bitsBelow x k).foldl (fun n b => 2 * n + b.toNat) acc = acc * 2 ^ k + x % 2 ^ k := by
  induction k generalizing acc with
  | zero => simp [bitsBelow, Nat.mod_one]
  | succ k ih => rw [bitsBelow, List.foldl_cons, ih, Nat.mod_pow_succ, Nat.toNat_testBit]; ring

theorem bitsValue_bitsBelow (x k : Nat) : bitsValue (bitsBelow x k) = x % 2 ^ k := by
  rw [bitsValue, foldl_bitsBelow, Nat.zero_mul, Nat.zero_add]

/-- One read takes the slice at the top of what is left and never runs out within it (R122, R123). -/
theorem readBits_bitsBelow {m : Nat} (w : BitVec m) {n k : Nat} (h : n ≤ k) :
    readBits n (bitsBelow w.toNat k) = some (w.extractLsb' (k - n) n, bitsBelow w.toNat (k - n)) := by
  obtain ⟨j, rfl⟩ := Nat.exists_eq_add_of_le h
  rw [readBits, length_bitsBelow, if_pos h, take_bitsBelow, drop_bitsBelow, bitsValue_bitsBelow, Nat.add_sub_cancel_left]
  congr 2
  apply BitVec.eq_of_toNat_eq
  simp

theorem bitsBelow_congr {x y k : Nat} (h : ∀ i, i < k → x.testBit i = y.testBit i) : bitsBelow x k = bitsBelow y k := by
  induction k with
  | zero => rfl
  | succ k ih => rw [bitsBelow, bitsBelow, h k k.lt_succ_self, ih fun i hi => h i (hi.trans k.lt_succ_self)]

/-- The bits of a concatenation are those of its parts, the left one first. -/
theorem bitsBelow_append {m n : Nat} (x : BitVec m) (y : BitVec n) :
    bitsBelow (x ++ y).toNat (m + n) = bitsBelow x.toNat m ++ bitsBelow y.toNat n := by
  rw [← List.take_append_drop m (bitsBelow (x ++ y).toNat (m + n)), take_bitsBelow, drop_bitsBelow]
  congr 1
  · exact bitsBelow_congr fun i _ => by simp [BitVec.testBit_toNat]
  · exact bitsBelow_congr fun i hi => by simp [BitVec.testBit_toNat, hi]

theorem byteBits_eq_bitsBelow (b : Byte) : byteBits b = bitsBelow b.toNat 8 := by
  simp only [byteBits, bitsBelow, BitVec.testBit_toNat, BitVec.getMsbD_eq_getLsbD]
  simp

/-- The window's buffer is the header word from its top bit down (R41, R42). -/
theorem flatMap_byteBits (b0 b1 b2 b3 : Byte) :
    [b0, b1, b2, b3].flatMap byteBits = bitsBelow (windowWord b0 b1 b2 b3).toNat 32 := by
  rw [windowWord, bitsBelow_append (b0 ++ b1 ++ b2) b3, bitsBelow_append (b0 ++ b1) b2, bitsBelow_append b0 b1]
  simp [byteBits_eq_bitsBelow]

/-- Settles O2: the ten reads walk down the word from bit 32, each taking the parser's slice. -/
theorem sequentialReadsAgreeWithSlices : Obligations.SequentialReadsAgreeWithSlices := by
  intro b0 b1 b2 b3
  simp only [readHeader, flatMap_byteBits, readBits_bitsBelow, Nat.reduceLeDiff, Nat.reduceSub, Option.bind_eq_bind,
    Option.bind_some, Option.pure_def, parseHeader]

end Sys2Proof.Machine
end

section
/-! The listing past its last check (R102, steps 8 to 10), over tables that meet R8 and widths that fit. -/

namespace Sys2Proof.Machine

/-! The exact sizes of R161 and R162, as functions of the two numbers that the tables give. -/

/-- `4 * ((12 * br * 1000) div sr) + 4 * padding` (R161). -/
def exactSizeL1 (padding : BitVec 1) (br sr : Nat) : Nat := 4 * (12 * (br * 1000) / sr) + 4 * padding.toNat

/-- `((spf div 8) * br * 1000) div sr + padding` (R162). -/
def exactSizeL23 (spf : Nat) (padding : BitVec 1) (br sr : Nat) : Nat := spf / 8 * (br * 1000) / sr + padding.toNat

/-- The exact size of step 8, by its layer (R161, R162). -/
def exactSize (version layer : BitVec 2) (padding : BitVec 1) (br sr : Nat) : Nat :=
  if layer = layerI then exactSizeL1 padding br sr else exactSizeL23 (samplesPerFrame version layer) padding br sr

/-- Over tables that meet R8 and widths that fit, a header that passes every check is answered OK with the exact
size, which is within R165's bound. -/
theorem decodeHeader_exact {t : Tables} {ws : Widths} {h : Header} (w : Word) (htables : tablesOk t = true)
    (hwidths : ws.ok = true) (haccepted : h.accepted = true)
    (hcell : ¬ (h.layer = layerII ∧ lookupL2Allowed t h.bri h.cm = 1#1))
    (hbr : lookupBitrate t h.bri (lookupColumn t h.version h.layer) ≠ 0#9)
    (hsr : lookupSampleRate t h.sri h.version ≠ 0#16) :
    decodeHeader t ws h w =
      ⟨statusOk, 4#3,
        exactSize h.version h.layer h.padding (lookupBitrate t h.bri (lookupColumn t h.version h.layer)).toNat
          (lookupSampleRate t h.sri h.version).toNat,
        (lookupSampleRate t h.sri h.version).toNat, mapChannel h.cm, samplesPerFrame h.version h.layer, diagNone, w⟩ ∧
      exactSize h.version h.layer h.padding (lookupBitrate t h.bri (lookupColumn t h.version h.layer)).toNat
        (lookupSampleRate t h.sri h.version).toNat ≤ 8065 := by
  obtain ⟨hsize, hbound⟩ := frameSize_exact (padding := h.padding) h.layer ((Widths.ok_iff ws).1 hwidths).1
    (samplesPerFrame_le h.version h.layer) (lookupBitrate_le htables h.bri (lookupColumn t h.version h.layer))
    (lookupSampleRate_ge htables h.sri h.version hsr)
  refine ⟨?_, hbound⟩
  rw [decodeHeader_of_accepted t ws w haccepted, if_neg hcell, if_neg hbr, if_neg hsr, hsize,
    okResponse_exact _ _ _ hwidths hbound (samplesPerFrame_le ..)]
  rfl

/-- An OK response of the listing has passed every check. -/
theorem decodeHeader_of_status_ok {t : Tables} {ws : Widths} {h : Header} {w : Word}
    (hok : (decodeHeader t ws h w).status = statusOk) :
    h.accepted = true ∧ ¬ (h.layer = layerII ∧ lookupL2Allowed t h.bri h.cm = 1#1) ∧
      lookupBitrate t h.bri (lookupColumn t h.version h.layer) ≠ 0#9 ∧ lookupSampleRate t h.sri h.version ≠ 0#16 := by
  obtain ⟨code, -, -, hinvalid⟩ | ⟨haccepted, hcell, hbr, hsr, -⟩ := decodeHeader_cases t ws h w
  · rw [hinvalid] at hok
    cases hok
  · exact ⟨haccepted, hcell, hbr, hsr⟩

end Sys2Proof.Machine
end

section
/-! What a step keeps: the invariant, the ports and the tables, from the four edges of R105 with the accepting one in terms of
Decode. -/

namespace Sys2Proof.Machine

/-- The edges of `step_cases`, where an accept fills RSP with Decode of the request (R105). -/
theorem step_cases_decode {s t : State} (h : step s = .next t) :
    ((nextPorts s).rstN = false ∧ t = resetEdge (advance s)) ∨
    ((nextPorts s).rstN = true ∧ accepts s (nextPorts s) = true ∧
      t = writeRsp (decodeFunction s.rom s.widths ((nextPorts s).reqLen % 2 ^ s.widths.lenW) (nextPorts s).reqData)
        (advance s)) ∨
    ((nextPorts s).rstN = true ∧ accepts s (nextPorts s) = false ∧ takes s (nextPorts s) = true ∧
      t = takeRsp (advance s)) ∨
    ((nextPorts s).rstN = true ∧ accepts s (nextPorts s) = false ∧ takes s (nextPorts s) = false ∧ t = advance s) := by
  obtain hreset | ⟨hrun, haccept, -⟩ | htake | hhold := step_cases h
  · exact .inl hreset
  · rw [step_of_accepts_eq_writeRsp haccept, Host.Outcome.next.injEq] at h
    exact .inr (.inl ⟨hrun, haccept, h.symm⟩)
  · exact .inr (.inr (.inl htake))
  · exact .inr (.inr (.inr hhold))

/-- Settles O37: no edge of the four writes a table or a width. -/
theorem stepKeepsTables : Obligations.StepKeepsTables := by
  intro s t h
  obtain ⟨-, rfl⟩ | ⟨-, -, rfl⟩ | ⟨-, -, -, rfl⟩ | ⟨-, -, -, rfl⟩ := step_cases_decode h
  · exact ⟨rfl, rfl⟩
  · exact ⟨rfl, rfl⟩
  · exact ⟨rfl, rfl⟩
  · exact ⟨rfl, rfl⟩

theorem samplesPerFrame_values (version layer : BitVec 2) :
    samplesPerFrame version layer = 384 ∨ samplesPerFrame version layer = 576 ∨ samplesPerFrame version layer = 1152 := by
  revert version layer
  decide

/-- An INVALID of the listing has one of its diagnostics, and an OK the exact size and the sample rate of a cell. -/
theorem decodeHeader_legal {t : Tables} {ws : Widths} (htables : tablesOk t = true) (hwidths : ws.ok = true) (h : Header)
    (w : Word) : (decodeHeader t ws h w).Legal t := by
  obtain ⟨code, hlow, hhigh, heq⟩ | ⟨haccepted, hcell, hbr, hsr, -⟩ := decodeHeader_cases t ws h w
  · rw [heq]
    exact .inr (.inr ⟨rfl, rfl, rfl, rfl, rfl, rfl, hlow, hhigh⟩)
  · obtain ⟨heq, hbound⟩ := decodeHeader_exact w htables hwidths haccepted hcell hbr hsr
    rw [heq]
    exact .inl ⟨rfl, rfl, hbound, BitVec.toNat_ne_iff_ne.2 hsr, ⟨_, _, rfl⟩, samplesPerFrame_values .., rfl⟩

theorem decodeFunction_legal {t : Tables} {ws : Widths} (htables : tablesOk t = true) (hwidths : ws.ok = true) (len : Nat)
    (data : Word) : (decodeFunction t ws len data).Legal t := by
  by_cases hshort : len < 4
  · rw [decodeFunction_of_short _ _ _ hshort]
    exact .inr (.inl ⟨rfl, rfl, rfl, rfl, rfl, rfl, rfl, rfl⟩)
  · rw [decodeFunction_of_long _ _ _ hshort]
    exact decodeHeader_legal htables hwidths _ _

/-- Settles O40: an accepting edge leaves a legal response, a hold the old one, a reset or a take none. -/
theorem stepKeepsInvariant : Obligations.StepKeepsInvariant := by
  rintro s t ⟨htables, hwidths, hlegal⟩ h
  obtain ⟨hrom, hws⟩ := stepKeepsTables s t h
  refine ⟨hrom ▸ htables, hws ▸ hwidths, ?_⟩
  obtain ⟨-, rfl⟩ | ⟨-, -, rfl⟩ | ⟨-, -, -, rfl⟩ | ⟨-, -, -, rfl⟩ := step_cases_decode h
  · intro hfull
    cases hfull
  · intro _
    exact decodeFunction_legal htables hwidths _ _
  · intro hfull
    cases hfull
  · exact hlegal

/-- The three numbers of each result fit their ports. -/
theorem IsResult.portsFit {ws : Widths} {r : Response} (h : IsResult ws r) :
    r.frameSize < 2 ^ ws.fsW ∧ r.sampleRate < 2 ^ ws.srW ∧ r.sampleCount < 2 ^ ws.scW := by
  cases h with
  | ok => exact ⟨narrow_lt .., narrow_lt .., narrow_lt ..⟩
  | needMore => exact ⟨Nat.two_pow_pos _, Nat.two_pow_pos _, Nat.two_pow_pos _⟩
  | invalid => exact ⟨Nat.two_pow_pos _, Nat.two_pow_pos _, Nat.two_pow_pos _⟩

/-- Settles O47: a reset's free values are cut to their ports, an accept writes one of the three results, and the other edges
keep the payload. -/
theorem stepKeepsPortsFit : Obligations.StepKeepsPortsFit := by
  intro s t hfit h
  obtain ⟨-, rfl⟩ | ⟨-, -, rfl⟩ | ⟨-, -, -, rfl⟩ | ⟨-, -, -, rfl⟩ := step_cases_decode h
  · exact ⟨Nat.mod_lt _ (Nat.two_pow_pos _), Nat.mod_lt _ (Nat.two_pow_pos _), Nat.mod_lt _ (Nat.two_pow_pos _)⟩
  · exact (decodeFunction_isResult ..).portsFit
  · exact hfit
  · exact hfit

/-- Settles O41: the default tables and widths are checked cell by cell, and RSP is empty with 0 in its numbers. -/
theorem resetMeetsInvariant : Obligations.ResetMeetsInvariant := by
  have hempty : State.reset.rspValid = false := rfl
  refine ⟨⟨by decide, by decide, ?_⟩, ⟨Nat.two_pow_pos _, Nat.two_pow_pos _, Nat.two_pow_pos _⟩, hempty⟩
  simp [hempty]

end Sys2Proof.Machine
end

section
/-! The shell's edges, one at a time: what an edge does with a waiting response, with an empty RSP's payload, and with the
request on its ports (R103 to R105). -/

namespace Sys2Proof.Machine

/-- Settles O35: with RSP full an edge accepts only if the host is ready, and so takes; a hold changes nothing the host sees. -/
theorem responseLostOnlyByTakeOrReset : Obligations.ResponseLostOnlyByTakeOrReset := by
  intro s t hfull h hchanged
  obtain ⟨hreset, -⟩ | ⟨hrun, haccept, -⟩ | ⟨-, -, htake, -⟩ | ⟨-, -, -, rfl⟩ := step_cases h
  · exact .inr hreset
  · obtain ⟨-, -, hempty | hready⟩ := (accepts_iff ..).1 haccept
    · simp [hfull] at hempty
    · exact .inl ((takes_iff ..).2 ⟨hrun, hfull, hready⟩)
  · exact .inl htake
  · exact absurd rfl hchanged

/-- Settles O39: a reset and an accept overwrite the payload, an empty RSP has nothing to take, and a hold leaves it empty. -/
theorem emptyPayloadIsUnobservable : Obligations.EmptyPayloadIsUnobservable := by
  intro s t t' r hempty h h'
  obtain ⟨hreset, rfl⟩ | ⟨-, haccept, rfl⟩ | ⟨-, -, htake, -⟩ | ⟨hrun, haccept, htake, rfl⟩ := step_cases_decode h
  · obtain rfl := Host.Outcome.next.inj
      ((step_of_reset (s := { s with rsp := r }) hreset).symm.trans h')
    exact ⟨rfl, rfl, rfl, rfl, rfl, rfl⟩
  · obtain rfl := Host.Outcome.next.inj
      ((step_of_accepts_eq_writeRsp (s := { s with rsp := r }) haccept).symm.trans h')
    exact ⟨rfl, rfl, rfl, rfl, rfl, rfl⟩
  · obtain ⟨-, hfull, -⟩ := (takes_iff ..).1 htake
    simp [hempty] at hfull
  · obtain rfl := Host.Outcome.next.inj
      ((step_of_holds (s := { s with rsp := r }) hrun haccept htake).symm.trans h')
    refine ⟨?_, rfl, rfl, rfl, rfl, rfl⟩
    have hnone : observedRsp (advance s) = none := observedRsp_of_rspValid_false hempty
    have hnone' : observedRsp (advance { s with rsp := r }) = none := observedRsp_of_rspValid_false hempty
    exact hnone.trans hnone'.symm

/-- Settles O34: an edge that is no reset and has no ready host neither accepts nor takes. -/
theorem stalledResponseHolds : Obligations.StalledResponseHolds := by
  intro s hrun hfull hready
  have haccept : accepts s (nextPorts s) = false := by simp [accepts, reqReady, hfull, hready]
  have htake : takes s (nextPorts s) = false := by simp [takes, hready]
  exact ⟨_, step_of_holds hrun haccept htake, hfull, rfl, rfl, rfl, rfl⟩

/-- Settles O29: `step_of_accepts` is the statement. -/
theorem stepRunsTheDecodedInstruction : Obligations.StepRunsTheDecodedInstruction :=
  fun _ _ haccept hdecode => step_of_accepts haccept hdecode

/-- Settles O48: the accepting edge is Decode of the length on the port, which matters only against four. -/
theorem lengthActsThroughItsPort : Obligations.LengthActsThroughItsPort := by
  intro s haccept
  refine ⟨_, step_of_accepts_eq_writeRsp haccept, ?_⟩
  rw [observedRsp_writeRsp]
  split
  case isTrue hshort =>
    rw [decodeFunction_of_short _ _ _ hshort]
    rfl
  case isFalse hlong =>
    rw [decodeFunction_of_long _ _ _ hlong, decodeFunction_of_long _ _ _ (by decide)]

theorem accepts_withFetchWord (s : State) (nbits w : Nat) :
    accepts (s.withFetchWord nbits w) (nextPorts (s.withFetchWord nbits w)) = true := by
  rw [accepts_iff, withFetchWord_nextPorts]
  exact ⟨rfl, rfl, .inr rfl⟩

/-- Settles O44: the placed request is on the ports whole; a 64-bit word is DECODE of it, a shorter one its row of the map. -/
theorem placedWordRunsNext : Obligations.PlacedWordRunsNext := by
  intro s nbits w i hlen hdecode
  have haccept := accepts_withFetchWord s nbits w
  by_cases hwhole : nbits = 64
  · rw [decodeTableWord, if_pos hwhole, Option.some.injEq] at hdecode
    rw [← hdecode, step_of_accepts_eq_decode haccept hlen]
    rfl
  · rw [decodeTableWord, if_neg hwhole] at hdecode
    have hports : portRequest (s.withFetchWord nbits w).widths (nextPorts (s.withFetchWord nbits w)) =
        tableRequest nbits w := by
      rw [withFetchWord_nextPorts, withFetchWord_widths, portRequest, Nat.mod_eq_of_lt hlen]
    exact step_of_accepts haccept (hports ▸ hdecode)

end Sys2Proof.Machine
end

section
/-! Runs of edges (R50, R231): the requests accepted and the responses taken, added up over the steps. -/

namespace Sys2Proof.Machine

theorem traffic_succ {n : Nat} {s t u : State} {reqs : List Request} {rsps : List Response} (hstep : step s = .next t)
    (hrest : traffic n t = some (reqs, rsps, u)) :
    traffic (n + 1) s = some (acceptedNow s ++ reqs, takenNow s ++ rsps, u) := by
  simp [traffic, hstep, hrest]

/-- The host at this edge resets, or presents nothing. -/
def PresentsNothing (p : PortsIn) : Prop := p.rstN = false ∨ p.reqValid = false

/-- An edge at which nothing can be accepted or taken: a reset, or RSP empty and nothing presented. It leaves RSP empty
(R230). -/
theorem step_of_quiet {s : State} (hempty : (nextPorts s).rstN = false ∨ s.rspValid = false)
    (hquiet : PresentsNothing (nextPorts s)) :
    acceptedNow s = [] ∧ takenNow s = [] ∧ ∃ t, step s = .next t ∧ t.rspValid = false ∧ t.inputs = s.inputs.tail := by
  have haccept : accepts s (nextPorts s) = false := by
    rw [← Bool.not_eq_true, accepts_iff]
    rintro ⟨hrun, hvalid, -⟩
    simp [PresentsNothing, hrun, hvalid] at hquiet
  have htake : takes s (nextPorts s) = false := by
    rw [← Bool.not_eq_true, takes_iff]
    rintro ⟨hrun, hfull, -⟩
    simp [hrun, hfull] at hempty
  refine ⟨by simp [acceptedNow, haccept], by simp [takenNow, htake], ?_⟩
  cases hrun : (nextPorts s).rstN with
  | false => exact ⟨_, step_of_reset hrun, rfl, rfl⟩
  | true => exact ⟨_, step_of_holds hrun haccept htake, by simpa [hrun] using hempty, rfl⟩

/-- The next edge presents nothing if no listed one does; past the list the host is idle (log 2). -/
theorem presentsNothing_nextPorts {s : State} {n : Nat} (h : ∀ p ∈ s.inputs.take (n + 1), PresentsNothing p) :
    PresentsNothing (nextPorts s) := by
  rw [nextPorts]
  cases hinputs : s.inputs with
  | nil => exact .inr rfl
  | cons p ps => exact h p (by simp [hinputs])

/-- Through edges that present nothing an empty RSP stays empty, and nothing is accepted or taken. -/
theorem traffic_of_quiet (n : Nat) {s : State} (hempty : s.rspValid = false)
    (hquiet : ∀ p ∈ s.inputs.take n, PresentsNothing p) :
    ∃ t, traffic n s = some ([], [], t) ∧ t.rspValid = false ∧ t.inputs = s.inputs.drop n := by
  induction n generalizing s with
  | zero => exact ⟨s, rfl, hempty, rfl⟩
  | succ n ih =>
    obtain ⟨haccepted, htaken, u, hstep, hvalid, hinputs⟩ := step_of_quiet (.inr hempty) (presentsNothing_nextPorts hquiet)
    have hrest : ∀ p ∈ u.inputs.take n, PresentsNothing p := fun p hp =>
      hquiet p (List.mem_of_mem_tail (by rwa [List.tail_take_eq_take_tail, ← hinputs]))
    obtain ⟨t, htraffic, hvalid', hinputs'⟩ := ih hvalid hrest
    refine ⟨t, ?_, hvalid', by rw [hinputs', hinputs, List.drop_tail]⟩
    rw [traffic_succ hstep htraffic, haccepted, htaken]
    rfl

/-- Settles O32: the reset edge empties RSP, and the edges after it present nothing that could be accepted; so the block is
ready for the next. -/
theorem firstRequestAfterResetIsAccepted : Obligations.FirstRequestAfterResetIsAccepted := by
  intro n s hreset hquiet
  obtain ⟨haccepted, htaken, u, hstep, hempty, hinputs⟩ := step_of_quiet (.inl hreset) (.inl hreset)
  obtain ⟨t, htraffic, hempty', hinputs'⟩ := traffic_of_quiet n hempty (hinputs ▸ hquiet)
  refine ⟨t, ?_, by rw [hinputs', hinputs, List.drop_tail],
    fun hrun hvalid => (accepts_iff ..).2 ⟨hrun, hvalid, .inl hempty'⟩⟩
  rw [traffic_succ hstep htraffic, haccepted, htaken]
  rfl

/-- A host that does not reset does not reset at the next edge, nor later. -/
theorem rstN_nextPorts_of_noReset {s : State} (h : noReset s = true) : (nextPorts s).rstN = true := by
  rw [nextPorts]
  cases hinputs : s.inputs with
  | nil => rfl
  | cons p ps => exact List.all_eq_true.1 h p (by simp [hinputs])

theorem noReset_of_inputs_eq_tail {s t : State} (h : noReset s = true) (hinputs : t.inputs = s.inputs.tail) :
    noReset t = true := by
  rw [noReset, hinputs, List.all_eq_true]
  exact fun p hp => List.all_eq_true.1 h p (List.mem_of_mem_tail hp)

@[simp] theorem pendingRsp_advance (s : State) : pendingRsp (advance s) = pendingRsp s := rfl

/-- One edge without reset keeps the order: what it takes and leaves is what waited, then Decode of what it accepts (R105). -/
theorem step_keeps_order {s : State} (hrun : (nextPorts s).rstN = true) :
    ∃ t, step s = .next t ∧ t.rom = s.rom ∧ t.widths = s.widths ∧ t.inputs = s.inputs.tail ∧
      takenNow s ++ pendingRsp t =
        pendingRsp s ++ (acceptedNow s).map (fun r => decodeFunction s.rom s.widths r.len r.data) := by
  cases haccept : accepts s (nextPorts s) with
  | true =>
    refine ⟨_, step_of_accepts_eq_writeRsp haccept, rfl, rfl, rfl, ?_⟩
    obtain ⟨-, -, hempty | hready⟩ := (accepts_iff ..).1 haccept
    · simp [takenNow, takes, pendingRsp, acceptedNow, haccept, hempty]
    · cases hfull : s.rspValid <;> simp [takenNow, takes, pendingRsp, acceptedNow, haccept, hready, hrun, hfull]
  | false =>
    cases htake : takes s (nextPorts s) with
    | true =>
      obtain ⟨-, hfull, -⟩ := (takes_iff ..).1 htake
      exact ⟨_, step_of_takes haccept htake, rfl, rfl, rfl, by simp [takenNow, pendingRsp, acceptedNow, haccept, htake, hfull]⟩
    | false =>
      exact ⟨_, step_of_holds hrun haccept htake, rfl, rfl, rfl, by simp [takenNow, acceptedNow, haccept, htake]⟩

theorem length_pendingRsp_le (s : State) : (pendingRsp s).length ≤ 1 := by
  rw [pendingRsp]
  split <;> simp

/-- Settles O43, by induction on the edges: `step_keeps_order` at the first, the rest from the state after it. -/
theorem responsesLeaveInOrder : Obligations.ResponsesLeaveInOrder := by
  intro n s hhost
  induction n generalizing s with
  | zero => exact ⟨[], [], s, rfl, by simp, length_pendingRsp_le s⟩
  | succ n ih =>
    obtain ⟨u, hstep, hrom, hwidths, hinputs, horder⟩ := step_keeps_order (rstN_nextPorts_of_noReset hhost)
    obtain ⟨reqs, rsps, t, htraffic, hrest, hone⟩ := ih u (noReset_of_inputs_eq_tail hhost hinputs)
    refine ⟨_, _, t, traffic_succ hstep htraffic, ?_, hone⟩
    rw [List.append_assoc, hrest, hrom, hwidths, ← List.append_assoc, horder, List.map_append, List.append_assoc]

end Sys2Proof.Machine
end

section
/-! The rows of the decode map, one by one (R84): what each answers, and that it reads nothing of the state but the tables and,
where a number might not fit, the widths. -/

namespace Sys2Proof.Machine

/-- Settles O15: a rejecting row is `raise Invalid` of its diagnostic (R201). -/
theorem rejectRowsAnswerInvalid : Obligations.RejectRowsAnswerInvalid := fun h s =>
  ⟨exec_hdrSyncErr h s, exec_hdrVerRes h s, exec_hdrLayerRes h s, exec_hdrBriFree h s, exec_hdrBriBad h s,
    exec_hdrSriRes h s⟩

/-- Settles O23: every instruction is one write to RSP. -/
theorem everyInstructionWritesOnlyRsp : Obligations.EveryInstructionWritesOnlyRsp := by
  intro i s
  obtain ⟨r, hexec⟩ := exec_writes_one_response i s
  exact ⟨_, hexec, rfl, rfl, rfl, rfl, rfl⟩

/-- Settles O25: the two states are of one build, so that the instruction writes the same response, over whatever RSP held. -/
theorem responseIgnoresEarlierResponse : Obligations.ResponseIgnoresEarlierResponse := by
  intro i s valid r
  obtain ⟨r', hexec, hexec'⟩ := exec_response_of_same_build i (s := { s with rspValid := valid, rsp := r }) (s' := s) rfl rfl
  exact hexec.trans hexec'.symm

/-- Settles O26: `frameSizeL1_exact` and `frameSizeL23_exact`, and the largest products. -/
theorem frameSizeDoesNotOverflow : Obligations.FrameSizeDoesNotOverflow := by
  intro ws br sr spf padding harith hbr hsr hspf
  obtain ⟨hL1, hL1le⟩ := frameSizeL1_exact (padding := padding) harith hbr hsr
  obtain ⟨hL23, hL23le⟩ := frameSizeL23_exact (spf := spf) (padding := padding) harith (by omega) hbr hsr
  have hproduct : spf / 8 * (br.toNat * 1000) ≤ 144 * 448000 := Nat.mul_le_mul (by omega) (by omega)
  exact ⟨by omega, hproduct, by decide, hL1, hL23, hL1 ▸ hL1le, hL23 ▸ hL23le⟩

/-- The OK response of an order-7 path where every number fits (R182), with `size` the exact size of its layer. -/
def exactOk (t : Tables) (version layer : BitVec 2) (spf : Nat) (size : Nat → Nat → Nat) (h : Header) : Response where
  status := statusOk
  consumed := 4#3
  frameSize := size (lookupBitrate t h.bri (lookupColumn t version layer)).toNat (lookupSampleRate t h.sri version).toNat
  sampleRate := (lookupSampleRate t h.sri version).toNat
  layout := mapChannel h.cm
  sampleCount := spf
  diag := diagNone
  header := headerWord h

/-- What an order-7 path answers past its layer's own checks where every number fits: no width appears. -/
def exactResponse (t : Tables) (version layer : BitVec 2) (spf : Nat) (size : Nat → Nat → Nat) (h : Header) : Response :=
  if lookupBitrate t h.bri (lookupColumn t version layer) = 0#9 then invalidResponse diagBitrateZero (headerWord h)
  else if lookupSampleRate t h.sri version = 0#16 then invalidResponse diagSampleRateZero (headerWord h)
  else exactOk t version layer spf size h

theorem exactResponse_of_nonzero {t : Tables} {version layer : BitVec 2} (spf : Nat) (size : Nat → Nat → Nat) {h : Header}
    (hbr : lookupBitrate t h.bri (lookupColumn t version layer) ≠ 0#9) (hsr : lookupSampleRate t h.sri version ≠ 0#16) :
    exactResponse t version layer spf size h = exactOk t version layer spf size h := by
  rw [exactResponse, if_neg hbr, if_neg hsr]

section
variable {s : State} (htables : tablesOk s.rom = true) (hwidths : s.widths.ok = true)
include htables hwidths

/-- A path whose datapath size is exact over R8's ranges answers exactly. -/
theorem resolve_exact {version layer : BitVec 2} {spf : Nat} {size : BitVec 9 → BitVec 16 → Nat} {natSize : Nat → Nat → Nat}
    (h : Header) (hspf : spf ≤ 1152) (hsize : ∀ br : BitVec 9, ∀ sr : BitVec 16, br.toNat ≤ 448 → 8000 ≤ sr.toNat →
      size br sr = natSize br.toNat sr.toNat ∧ natSize br.toNat sr.toNat ≤ 8065) :
    resolve version layer spf size h s = .next (writeRsp (exactResponse s.rom version layer spf natSize h) s) := by
  rw [resolve_eq]
  refine congrArg (fun r => Host.Outcome.next (writeRsp r s)) ?_
  refine ite_congr rfl (fun _ => rfl) fun _ => ?_
  refine ite_congr rfl (fun _ => rfl) fun hrate => ?_
  obtain ⟨hexact, hbound⟩ := hsize _ _ (lookupBitrate_le htables h.bri (lookupColumn s.rom version layer))
    (lookupSampleRate_ge htables h.sri version hrate)
  rw [hexact, okResponse_exact _ _ _ hwidths hbound hspf]
  rfl

theorem layerIPath_exact (version : BitVec 2) (h : Header) :
    layerIPath version h s =
      .next (writeRsp (exactResponse s.rom version layerI 384 (exactSizeL1 h.padding) h) s) :=
  resolve_exact htables hwidths h (by decide) fun _ _ hbr hsr =>
    frameSizeL1_exact ((Widths.ok_iff _).1 hwidths).1 hbr hsr

theorem layerIIIPath_exact (version : BitVec 2) {spf : Nat} (hspf : spf ≤ 1152) (h : Header) :
    layerIIIPath version spf h s =
      .next (writeRsp (exactResponse s.rom version layerIII spf (exactSizeL23 spf h.padding) h) s) :=
  resolve_exact htables hwidths h hspf fun _ _ hbr hsr =>
    frameSizeL23_exact ((Widths.ok_iff _).1 hwidths).1 hspf hbr hsr

/-- The Layer II path, its combination check first (R130). -/
theorem layerIIPath_exact (version : BitVec 2) (h : Header) :
    layerIIPath version h s = .next (writeRsp
      (if lookupL2Allowed s.rom h.bri h.cm = 1#1 then invalidResponse diagL2Combination (headerWord h)
        else exactResponse s.rom version layerII 1152 (exactSizeL23 1152 h.padding) h) s) := by
  rw [layerIIPath_eq]
  split
  · rfl
  · exact resolve_exact htables hwidths h (by decide) fun _ _ hbr hsr =>
      frameSizeL23_exact ((Widths.ok_iff _).1 hwidths).1 (by decide) hbr hsr

/-! The three paths past the zero checks. -/

theorem layerIPath_of_nonzero {version : BitVec 2} {h : Header}
    (hbr : lookupBitrate s.rom h.bri (lookupColumn s.rom version layerI) ≠ 0#9)
    (hsr : lookupSampleRate s.rom h.sri version ≠ 0#16) :
    layerIPath version h s = .next (writeRsp (exactOk s.rom version layerI 384 (exactSizeL1 h.padding) h) s) := by
  rw [layerIPath_exact htables hwidths, exactResponse_of_nonzero _ _ hbr hsr]

theorem layerIIPath_of_nonzero {version : BitVec 2} {h : Header} (hcell : lookupL2Allowed s.rom h.bri h.cm = 0#1)
    (hbr : lookupBitrate s.rom h.bri (lookupColumn s.rom version layerII) ≠ 0#9)
    (hsr : lookupSampleRate s.rom h.sri version ≠ 0#16) :
    layerIIPath version h s = .next (writeRsp (exactOk s.rom version layerII 1152 (exactSizeL23 1152 h.padding) h) s) := by
  rw [layerIIPath_exact htables hwidths, if_neg (by simp [hcell]), exactResponse_of_nonzero _ _ hbr hsr]

theorem layerIIIPath_of_nonzero {version : BitVec 2} {spf : Nat} {h : Header} (hspf : spf ≤ 1152)
    (hbr : lookupBitrate s.rom h.bri (lookupColumn s.rom version layerIII) ≠ 0#9)
    (hsr : lookupSampleRate s.rom h.sri version ≠ 0#16) :
    layerIIIPath version spf h s =
      .next (writeRsp (exactOk s.rom version layerIII spf (exactSizeL23 spf h.padding) h) s) := by
  rw [layerIIIPath_exact htables hwidths _ hspf, exactResponse_of_nonzero _ _ hbr hsr]

end

/-- Settles O16: each row is the Layer I path of its version. -/
theorem layerIRowsAnswerOk : Obligations.LayerIRowsAnswerOk := by
  intro h s htables hwidths p hp br sr hbr hsr
  simp only [List.mem_cons, List.not_mem_nil, or_false] at hp
  obtain rfl | rfl | rfl := hp
  · exact layerIPath_of_nonzero htables hwidths (version := mpeg1) hbr hsr
  · exact layerIPath_of_nonzero htables hwidths (version := mpeg2) hbr hsr
  · exact layerIPath_of_nonzero htables hwidths (version := mpeg25) hbr hsr

/-- Settles O17: each row is the Layer II path of its version, which a cell of 0 lets through. -/
theorem layerIIRowsAnswerOk : Obligations.LayerIIRowsAnswerOk := by
  intro h s htables hwidths hcell p hp br sr hbr hsr
  simp only [List.mem_cons, List.not_mem_nil, or_false] at hp
  obtain rfl | rfl | rfl := hp
  · exact layerIIPath_of_nonzero htables hwidths (version := mpeg1) hcell hbr hsr
  · exact layerIIPath_of_nonzero htables hwidths (version := mpeg2) hcell hbr hsr
  · exact layerIIPath_of_nonzero htables hwidths (version := mpeg25) hcell hbr hsr

/-- Settles O18: each row is the Layer III path of its version and its samples per frame. -/
theorem layerIIIRowsAnswerOk : Obligations.LayerIIIRowsAnswerOk := by
  intro h s htables hwidths p hp br sr hbr hsr
  simp only [List.mem_cons, List.not_mem_nil, or_false] at hp
  obtain rfl | rfl | rfl := hp
  · exact layerIIIPath_of_nonzero htables hwidths (version := mpeg1) (by decide) hbr hsr
  · exact layerIIIPath_of_nonzero htables hwidths (version := mpeg2) (by decide) hbr hsr
  · exact layerIIIPath_of_nonzero htables hwidths (version := mpeg25) (by decide) hbr hsr

/-- Settles O46: over tables that meet R8 no width appears in what an instruction answers. -/
theorem fittingWidthsGiveTheSameResponse : Obligations.FittingWidthsGiveTheSameResponse := by
  intro i s ws htables hwidths hws
  have h1 : ∀ version h, ∃ r, layerIPath version h s = .next (writeRsp r s) ∧
      layerIPath version h { s with widths := ws } = .next (writeRsp r { s with widths := ws }) := fun version h =>
    ⟨_, layerIPath_exact htables hwidths version h, layerIPath_exact (s := { s with widths := ws }) htables hws version h⟩
  have h2 : ∀ version h, ∃ r, layerIIPath version h s = .next (writeRsp r s) ∧
      layerIIPath version h { s with widths := ws } = .next (writeRsp r { s with widths := ws }) := fun version h =>
    ⟨_, layerIIPath_exact htables hwidths version h, layerIIPath_exact (s := { s with widths := ws }) htables hws version h⟩
  have h3 : ∀ version {spf}, spf ≤ 1152 → ∀ h, ∃ r, layerIIIPath version spf h s = .next (writeRsp r s) ∧
      layerIIIPath version spf h { s with widths := ws } = .next (writeRsp r { s with widths := ws }) :=
    fun version _ hspf h => ⟨_, layerIIIPath_exact htables hwidths version hspf h,
      layerIIIPath_exact (s := { s with widths := ws }) htables hws version hspf h⟩
  cases i
  case decode len data =>
    exact ⟨_, decodeIsTheListing len data s htables hwidths, decodeIsTheListing len data { s with widths := ws } htables hws⟩
  case needMore => exact ⟨_, rfl, rfl⟩
  case hdrSyncErr => exact ⟨_, rfl, rfl⟩
  case hdrVerRes => exact ⟨_, rfl, rfl⟩
  case hdrLayerRes => exact ⟨_, rfl, rfl⟩
  case hdrBriFree => exact ⟨_, rfl, rfl⟩
  case hdrBriBad => exact ⟨_, rfl, rfl⟩
  case hdrSriRes => exact ⟨_, rfl, rfl⟩
  case hdrM1L1 => exact h1 ..
  case hdrM1L2 => exact h2 ..
  case hdrM1L3 => exact h3 _ (by decide) _
  case hdrM2L1 => exact h1 ..
  case hdrM2L2 => exact h2 ..
  case hdrM2L3 => exact h3 _ (by decide) _
  case hdrM25L1 => exact h1 ..
  case hdrM25L2 => exact h2 ..
  case hdrM25L3 => exact h3 _ (by decide) _

/-! The rows outside R8: the zero checks and the combination check need no table constraint. -/

theorem layerIIPath_of_cell_one {version : BitVec 2} {h : Header} {s : State}
    (hcell : lookupL2Allowed s.rom h.bri h.cm = 1#1) :
    layerIIPath version h s = .next (writeRsp (invalidResponse diagL2Combination (headerWord h)) s) := by
  rw [layerIIPath_eq, if_pos hcell]

theorem layerIIPath_of_cell_zero {version : BitVec 2} {h : Header} {s : State}
    (hcell : lookupL2Allowed s.rom h.bri h.cm = 0#1) :
    layerIIPath version h s =
      resolve version layerII 1152 (fun br sr => frameSizeL23 s.widths 1152 br sr h.padding) h s := by
  rw [layerIIPath_eq, if_neg (by simp [hcell])]

/-- The zero checks read the map, the bitrates and the rates, not the Layer II matrix. -/
theorem resolve_ignores_l2Allowed (version layer : BitVec 2) (spf : Nat) (size : BitVec 9 → BitVec 16 → Nat) (h : Header)
    (s : State) (cells : Vector (Vector (BitVec 1) 4) 17) :
    ∃ t t', resolve version layer spf size h s = .next t ∧
      resolve version layer spf size h { s with rom := { s.rom with l2Allowed := cells } } = .next t' ∧ t.rsp = t'.rsp :=
  ⟨_, _, resolve_eq .., resolve_eq .., rfl⟩

theorem layerIPath_ignores_l2Allowed (version : BitVec 2) (h : Header) (s : State)
    (cells : Vector (Vector (BitVec 1) 4) 17) :
    ∃ t t', layerIPath version h s = .next t ∧
      layerIPath version h { s with rom := { s.rom with l2Allowed := cells } } = .next t' ∧ t.rsp = t'.rsp :=
  resolve_ignores_l2Allowed version layerI 384 (fun br sr => frameSizeL1 s.widths br sr h.padding) h s cells

theorem layerIIIPath_ignores_l2Allowed (version : BitVec 2) (spf : Nat) (h : Header) (s : State)
    (cells : Vector (Vector (BitVec 1) 4) 17) :
    ∃ t t', layerIIIPath version spf h s = .next t ∧
      layerIIIPath version spf h { s with rom := { s.rom with l2Allowed := cells } } = .next t' ∧ t.rsp = t'.rsp :=
  resolve_ignores_l2Allowed version layerIII spf (fun br sr => frameSizeL23 s.widths spf br sr h.padding) h s cells

/-- Settles O19: the Layer II path checks its cell first; the other two paths are `resolve` alone. -/
theorem layerIICombinationRejects : Obligations.LayerIICombinationRejects := by
  constructor
  · intro h s hcell i hi
    simp only [List.mem_cons, List.not_mem_nil, or_false] at hi
    obtain rfl | rfl | rfl := hi
    · exact layerIIPath_of_cell_one hcell
    · exact layerIIPath_of_cell_one hcell
    · exact layerIIPath_of_cell_one hcell
  · intro h s cells i hi
    simp only [List.mem_cons, List.not_mem_nil, or_false] at hi
    obtain rfl | rfl | rfl | rfl | rfl | rfl := hi
    · exact layerIPath_ignores_l2Allowed mpeg1 h s cells
    · exact layerIPath_ignores_l2Allowed mpeg2 h s cells
    · exact layerIPath_ignores_l2Allowed mpeg25 h s cells
    · exact layerIIIPath_ignores_l2Allowed mpeg1 1152 h s cells
    · exact layerIIIPath_ignores_l2Allowed mpeg2 576 h s cells
    · exact layerIIIPath_ignores_l2Allowed mpeg25 576 h s cells

/-- A zero bitrate, else a zero sample rate, ends a path in its diagnostic (R143, R145). -/
theorem resolve_of_zero_entry {o : Outcome} {version layer : BitVec 2} {spf : Nat} {size : BitVec 9 → BitVec 16 → Nat}
    {h : Header} {s : State} (ho : o = resolve version layer spf size h s) :
    (lookupBitrate s.rom h.bri (lookupColumn s.rom version layer) = 0#9 →
      o = .next (writeRsp (invalidResponse diagBitrateZero (headerWord h)) s)) ∧
    (lookupBitrate s.rom h.bri (lookupColumn s.rom version layer) ≠ 0#9 → lookupSampleRate s.rom h.sri version = 0#16 →
      o = .next (writeRsp (invalidResponse diagSampleRateZero (headerWord h)) s)) := by
  rw [ho, resolve_eq]
  exact ⟨fun hbr => by rw [if_pos hbr], fun hbr hsr => by rw [if_neg hbr, if_pos hsr]⟩

/-- Settles O20: each row is `resolve` for its version and layer, a Layer II row because its cell is 0. -/
theorem zeroEntriesReject : Obligations.ZeroEntriesReject := by
  intro h s p hp br sr hcell
  simp only [List.mem_cons, List.not_mem_nil, or_false] at hp
  obtain rfl | rfl | rfl | rfl | rfl | rfl | rfl | rfl | rfl := hp
  · exact resolve_of_zero_entry (layerIPath_eq mpeg1 h s)
  · exact resolve_of_zero_entry (layerIIPath_of_cell_zero (version := mpeg1) (hcell rfl))
  · exact resolve_of_zero_entry (layerIIIPath_eq mpeg1 1152 h s)
  · exact resolve_of_zero_entry (layerIPath_eq mpeg2 h s)
  · exact resolve_of_zero_entry (layerIIPath_of_cell_zero (version := mpeg2) (hcell rfl))
  · exact resolve_of_zero_entry (layerIIIPath_eq mpeg2 576 h s)
  · exact resolve_of_zero_entry (layerIPath_eq mpeg25 h s)
  · exact resolve_of_zero_entry (layerIIPath_of_cell_zero (version := mpeg25) (hcell rfl))
  · exact resolve_of_zero_entry (layerIIIPath_eq mpeg25 576 h s)

end Sys2Proof.Machine
end

section
/-! What the listing reads of a header (R102): the fields that no check and no formula names show in `rsp_header` alone, the
channel mode outside Layer II in the layout, and padding in one slot of the size. -/

namespace Sys2Proof.Machine

/-- Settles O45: DECODE's checks are the listing's, and past them the three numbers are whatever their ports carry. -/
theorem decodeChecksAreTheListingForEveryBuild : Obligations.DecodeChecksAreTheListingForEveryBuild := by
  intro len data s h invalid
  let br := lookupBitrate s.rom h.bri (lookupColumn s.rom h.version h.layer)
  let sr := lookupSampleRate s.rom h.sri h.version
  let spf := samplesPerFrame h.version h.layer
  let fs := if h.layer = layerI then frameSizeL1 s.widths br sr h.padding else frameSizeL23 s.widths spf br sr h.padding
  refine ⟨narrow s.widths.fsW fs, narrow s.widths.srW sr.toNat, narrow s.widths.scW spf,
    congrArg (fun r => Host.Outcome.next (writeRsp r s)) ?_⟩
  -- each check in turn: where it fails the two responses are the same, else both go on to the next
  iterate 9 refine ite_congr rfl (fun _ => rfl) fun _ => ?_
  rfl

/-- Two results of one check agree in what `f` keeps of them if they do where the check fails and where it passes. -/
theorem apply_ite_congr {α β : Type} (f : α → β) {p : Prop} [Decidable p] {a a' b b' : α} (hpos : f a = f a')
    (hneg : f b = f b') : f (if p then a else b) = f (if p then a' else b') := by
  split <;> assumption

/-- A response but for its header word. -/
def eraseHeader (r : Response) : Response := { r with header := 0#32 }

/-- A response but for its layout and its header word. -/
def eraseLayoutAndHeader (r : Response) : Response := { r with layout := 0#1, header := 0#32 }

/-- The word enters the listing's response as the header output only (R182, R183). -/
theorem eraseHeader_decodeHeader (t : Tables) (ws : Widths) (h : Header) (w w' : Word) :
    eraseHeader (decodeHeader t ws h w) = eraseHeader (decodeHeader t ws h w') := by
  simp only [decodeHeader]
  iterate 8 refine apply_ite_congr eraseHeader rfl ?_
  rfl

/-- Protection, `priv` and other_flags are read by no step of the listing (R71, R73, R74). -/
theorem decodeHeader_erase_informational (t : Tables) (ws : Widths) (h : Header) (w : Word) :
    decodeHeader t ws { h with prot := 0#1, priv := 0#1, other := 0#6 } w = decodeHeader t ws h w := rfl

/-- Settles O12: but for their header words both responses are the listing's on the common header. -/
theorem informationalFieldsDoNotMatter : Obligations.InformationalFieldsDoNotMatter := by
  intro len data data' s hlen hcommon
  refine ⟨_, _, exec_decode .., exec_decode .., ?_⟩
  simp only [writeRsp_rsp, decodeFunction_of_long _ _ _ hlen.not_gt]
  refine (eraseHeader_decodeHeader _ _ _ data data').trans (congrArg eraseHeader ?_)
  rw [← decodeHeader_erase_informational, hcommon, decodeHeader_erase_informational]

/-- Outside Layer II the channel mode is read for the layout only (R130, R180). -/
theorem eraseLayoutAndHeader_decodeHeader (t : Tables) (ws : Widths) {h : Header} (w w' : Word) (hlayer : h.layer ≠ layerII) :
    eraseLayoutAndHeader (decodeHeader t ws h w) = eraseLayoutAndHeader (decodeHeader t ws { h with cm := 0#2 } w') := by
  simp only [decodeHeader, hlayer, false_and, if_false]
  iterate 7 refine apply_ite_congr eraseLayoutAndHeader rfl ?_
  rfl

theorem decodeHeader_layout_of_status_ok {t : Tables} {ws : Widths} {h : Header} {w : Word}
    (hok : (decodeHeader t ws h w).status = statusOk) : (decodeHeader t ws h w).layout = mapChannel h.cm := by
  obtain ⟨haccepted, hcell, hbr, hsr⟩ := decodeHeader_of_status_ok hok
  rw [decodeHeader_of_accepted t ws w haccepted, if_neg hcell, if_neg hbr, if_neg hsr]
  rfl

/-- Settles O13: the two headers are the same but for the channel mode, which is erased with the layout. -/
theorem channelModeChangesOnlyLayout : Obligations.ChannelModeChangesOnlyLayout := by
  intro len data data' s hlen hlayer hcommon
  have hsame := congrArg Header.layer hcommon
  have hlayer' : (parseHeader data').layer ≠ layerII := fun hII => hlayer (hsame.trans hII)
  refine ⟨_, _, exec_decode .., exec_decode .., ?_⟩
  simp only [writeRsp_rsp, decodeFunction_of_long _ _ _ hlen.not_gt]
  refine ⟨?_, decodeHeader_layout_of_status_ok⟩
  refine (eraseLayoutAndHeader_decodeHeader _ _ data 0#32 hlayer).trans ?_
  rw [hcommon]
  exact (eraseLayoutAndHeader_decodeHeader _ _ data' 0#32 hlayer').symm

/-- One slot: 4 bytes in Layer I, 1 byte in the others (R163). -/
theorem exactSize_padded (version layer : BitVec 2) (br sr : Nat) :
    exactSize version layer 1#1 br sr = exactSize version layer 0#1 br sr + if layer = layerI then 4 else 1 := by
  rw [exactSize, exactSize]
  split <;> rfl

/-- A request that DECODE answers OK is long enough. -/
theorem not_short_of_status_ok {t : Tables} {ws : Widths} {len : Nat} {data : Word}
    (hok : (decodeFunction t ws len data).status = statusOk) : ¬ len < 4 := by
  intro hshort
  rw [decodeFunction_of_short t ws data hshort] at hok
  cases hok

/-- Settles O14: the padded header passes the same checks, and `exactSize_padded` compares the sizes. -/
theorem paddingAddsOneSlot : Obligations.PaddingAddsOneSlot := by
  intro len data data' s t htables hwidths hpadded hunpadded hexec hok
  rw [exec_decode, Host.Outcome.next.injEq] at hexec
  obtain rfl := hexec
  rw [writeRsp_rsp] at hok
  have hlong := not_short_of_status_ok hok
  rw [decodeFunction_of_long _ _ _ hlong] at hok
  obtain ⟨haccepted, hcell, hbr, hsr⟩ := decodeHeader_of_status_ok hok
  refine ⟨_, exec_decode .., ?_⟩
  rw [writeRsp_rsp, writeRsp_rsp, decodeFunction_of_long _ _ _ hlong, decodeFunction_of_long _ _ _ hlong, hpadded,
    (decodeHeader_exact data htables hwidths haccepted hcell hbr hsr).1,
    (decodeHeader_exact (h := { parseHeader data with padding := 1#1 }) data' htables hwidths haccepted hcell hbr hsr).1,
    hunpadded]
  exact ⟨rfl, exactSize_padded ..⟩

end Sys2Proof.Machine
end

section
/-! The cells of the tables: the reserved column of any tables that meet R8, and what the default cells (log 6) make of the
checks and of the sizes. -/

namespace Sys2Proof.Machine

/-- Settles O27: the default map cell by cell; and column 5 holds only zeros, which the first zero check rejects. -/
theorem reservedColumnRejects : Obligations.ReservedColumnRejects := by
  constructor
  · decide
  · intro len data s htables hlen h haccepted hcell hcolumn
    have hpasses : ¬ (h.layer = layerII ∧ lookupL2Allowed s.rom h.bri h.cm = 1#1) := by
      rintro ⟨hlayer, hone⟩
      simp [hcell hlayer] at hone
    have hzero : lookupBitrate s.rom h.bri (lookupColumn s.rom h.version h.layer) = 0#9 := by
      rw [hcolumn]
      exact lookupBitrate_reserved htables h.bri
    rw [exec_decode, decodeFunction_of_long _ _ _ hlen.not_gt, decodeHeader_of_accepted _ _ _ haccepted, if_neg hpasses,
      if_pos hzero]
    rfl

/-- The bitrates, in kbps, of the default column of an accepted version and layer: the least and the largest (R80, R81). -/
def defaultBitrates (version layer : BitVec 2) : Nat × Nat :=
  if version = mpeg1 then (32, 448) else if layer = layerI then (32, 256) else (8, 160)

/-- The default sample rates, in Hz, of an accepted version: the least and the largest (R82). -/
def defaultSampleRates (version : BitVec 2) : Nat × Nat :=
  if version = mpeg1 then (32000, 48000) else if version = mpeg2 then (16000, 24000) else (8000, 12000)

theorem lookupBitrate_default_range : ∀ {version layer : BitVec 2} {bri : BitVec 4}, version ≠ versionReserved →
    layer ≠ layerReserved → ¬ (bri = 0x0#4 ∨ bri = 0xF#4) →
    (defaultBitrates version layer).1 ≤ (lookupBitrate defaultTables bri (lookupColumn defaultTables version layer)).toNat ∧
      (lookupBitrate defaultTables bri (lookupColumn defaultTables version layer)).toNat ≤ (defaultBitrates version layer).2 := by
  decide

theorem lookupSampleRate_default_range : ∀ {version sri : BitVec 2}, version ≠ versionReserved → sri ≠ 0b11#2 →
    (defaultSampleRates version).1 ≤ (lookupSampleRate defaultTables sri version).toNat ∧
      (lookupSampleRate defaultTables sri version).toNat ≤ (defaultSampleRates version).2 := by
  decide

/-- A larger bitrate and a smaller sample rate make a larger frame. -/
theorem exactSize_le (version layer : BitVec 2) (padding : BitVec 1) {br br' sr sr' : Nat} (hbr : br ≤ br') (hsr : sr' ≤ sr)
    (hpos : 0 < sr') : exactSize version layer padding br sr ≤ exactSize version layer padding br' sr' := by
  have hrate : br * 1000 ≤ br' * 1000 := Nat.mul_le_mul_right _ hbr
  rw [exactSize, exactSize]
  split
  · have := Nat.div_le_div (Nat.mul_le_mul_left 12 hrate) hsr hpos.ne'
    rw [exactSizeL1, exactSizeL1]
    omega
  · exact Nat.add_le_add_right (Nat.div_le_div (Nat.mul_le_mul_left _ hrate) hsr hpos.ne') _

/-- R165's range 24..2881 at the two ends of the default rates, for each version, layer and padding. -/
theorem exactSize_default_ends : ∀ (version layer : BitVec 2) (padding : BitVec 1),
    24 ≤ exactSize version layer padding (defaultBitrates version layer).1 (defaultSampleRates version).2 ∧
      exactSize version layer padding (defaultBitrates version layer).2 (defaultSampleRates version).1 ≤ 2881 := by
  decide

theorem defaultBitrates_pos (version layer : BitVec 2) : 0 < (defaultBitrates version layer).1 := by
  revert version layer
  decide

theorem defaultSampleRates_pos (version : BitVec 2) : 0 < (defaultSampleRates version).1 := by
  revert version
  decide

section
variable {h : Header} (haccepted : h.accepted = true)
include haccepted

/-- No zero bitrate is reached with the default tables (42_lookup.md section 1). -/
theorem lookupBitrate_default_ne_zero :
    lookupBitrate defaultTables h.bri (lookupColumn defaultTables h.version h.layer) ≠ 0#9 := by
  obtain ⟨-, hversion, hlayer, hbri, -⟩ := (accepted_iff h).1 haccepted
  rw [← BitVec.toNat_ne_iff_ne]
  exact ((defaultBitrates_pos _ _).trans_le (lookupBitrate_default_range hversion hlayer hbri).1).ne'

/-- No zero sample rate is reached with the default tables (42_lookup.md section 2). -/
theorem lookupSampleRate_default_ne_zero : lookupSampleRate defaultTables h.sri h.version ≠ 0#16 := by
  obtain ⟨-, hversion, -, -, hsri⟩ := (accepted_iff h).1 haccepted
  rw [← BitVec.toNat_ne_iff_ne]
  exact ((defaultSampleRates_pos _).trans_le (lookupSampleRate_default_range hversion hsri).1).ne'

/-- With the default tables the exact size of an accepted header lies between the ends of its rates (R165). -/
theorem exactSize_default_range :
    24 ≤ exactSize h.version h.layer h.padding
        (lookupBitrate defaultTables h.bri (lookupColumn defaultTables h.version h.layer)).toNat
        (lookupSampleRate defaultTables h.sri h.version).toNat ∧
      exactSize h.version h.layer h.padding
        (lookupBitrate defaultTables h.bri (lookupColumn defaultTables h.version h.layer)).toNat
        (lookupSampleRate defaultTables h.sri h.version).toNat ≤ 2881 := by
  obtain ⟨-, hversion, hlayer, hbri, hsri⟩ := (accepted_iff h).1 haccepted
  obtain ⟨hbrlow, hbrhigh⟩ := lookupBitrate_default_range hversion hlayer hbri
  obtain ⟨hsrlow, hsrhigh⟩ := lookupSampleRate_default_range hversion hsri
  obtain ⟨hlow, hhigh⟩ := exactSize_default_ends h.version h.layer h.padding
  have hpos := defaultSampleRates_pos h.version
  exact ⟨hlow.trans (exactSize_le _ _ _ hbrlow hsrhigh (hpos.trans_le hsrlow)),
    (exactSize_le _ _ _ hbrhigh hsrlow hpos).trans hhigh⟩

/-- With the default tables an accepted header is rejected by the Layer II check or not at all. -/
theorem decodeHeader_default (ws : Widths) (w : Word) :
    ((h.layer = layerII ∧ lookupL2Allowed defaultTables h.bri h.cm = 1#1) ∧
        decodeHeader defaultTables ws h w = invalidResponse diagL2Combination w) ∨
      (¬ (h.layer = layerII ∧ lookupL2Allowed defaultTables h.bri h.cm = 1#1) ∧
        (decodeHeader defaultTables ws h w).status = statusOk ∧ (decodeHeader defaultTables ws h w).diag = diagNone) := by
  rw [decodeHeader_of_accepted _ _ _ haccepted]
  by_cases hcell : h.layer = layerII ∧ lookupL2Allowed defaultTables h.bri h.cm = 1#1
  · exact .inl ⟨hcell, if_pos hcell⟩
  · rw [if_neg hcell, if_neg (lookupBitrate_default_ne_zero haccepted), if_neg (lookupSampleRate_default_ne_zero haccepted)]
    exact .inr ⟨hcell, rfl, rfl⟩

end

/-- The checks of step 3 have the diagnostics 2 to 6 (R124 to R128). -/
theorem decodeHeader_of_not_accepted (t : Tables) (ws : Widths) {h : Header} (w : Word) (hrejected : ¬ h.accepted = true) :
    ∃ code : BitVec 4, code.toNat ≤ 6 ∧ decodeHeader t ws h w = invalidResponse code w := by
  by_cases hsync : h.sync ≠ 0x7FF#11
  case pos => exact ⟨diagSync, by decide, if_pos hsync⟩
  by_cases hversion : h.version = versionReserved
  case pos => exact ⟨diagVersion, by decide, by rw [decodeHeader, if_neg hsync, if_pos hversion]⟩
  by_cases hlayer : h.layer = layerReserved
  case pos => exact ⟨diagLayer, by decide, by rw [decodeHeader, if_neg hsync, if_neg hversion, if_pos hlayer]⟩
  by_cases hbri : h.bri = 0x0#4 ∨ h.bri = 0xF#4
  case pos => exact ⟨diagBitrateIndex, by decide, by rw [decodeHeader, if_neg hsync, if_neg hversion, if_neg hlayer, if_pos hbri]⟩
  by_cases hsri : h.sri = 0b11#2
  case pos => exact ⟨diagSampleRateIndex, by decide, by
    rw [decodeHeader, if_neg hsync, if_neg hversion, if_neg hlayer, if_neg hbri, if_pos hsri]⟩
  exact absurd ((accepted_iff h).2 ⟨not_not.1 hsync, hversion, hlayer, hbri, hsri⟩) hrejected

/-- Settles O21: a short request has diagnostic 1, the checks of step 3 at most 6, and an accepted header 7 or 0. -/
theorem defaultTablesReachNoZeroEntry : Obligations.DefaultTablesReachNoZeroEntry := by
  intro len data s t hrom hexec
  rw [exec_decode, Host.Outcome.next.injEq, hrom] at hexec
  rw [← hexec, writeRsp_rsp]
  by_cases hshort : len < 4
  case pos =>
    rw [decodeFunction_of_short _ _ _ hshort]
    decide
  rw [decodeFunction_of_long _ _ _ hshort]
  by_cases haccepted : (parseHeader data).accepted = true
  case neg =>
    obtain ⟨code, hcode, heq⟩ := decodeHeader_of_not_accepted defaultTables s.widths data haccepted
    rw [heq]
    have hother : ∀ diag : BitVec 4, 6 < diag.toNat → code ≠ diag := fun diag hdiag hcode' => by
      rw [hcode'] at hcode
      omega
    exact ⟨hother 8#4 (by decide), hother 9#4 (by decide)⟩
  obtain ⟨-, heq⟩ | ⟨-, -, hdiag⟩ := decodeHeader_default haccepted s.widths data
  · rw [heq]
    exact ⟨show diagL2Combination ≠ 8#4 by decide, show diagL2Combination ≠ 9#4 by decide⟩
  · rw [hdiag]
    decide

/-- The cells of 0 in the default matrix, at the bitrate indices that step 3 lets through (R83). -/
theorem lookupL2Allowed_default_iff : ∀ {bri : BitVec 4} {cm : BitVec 2}, ¬ (bri = 0x0#4 ∨ bri = 0xF#4) →
    (lookupL2Allowed defaultTables bri cm = 1#1 ↔
      ¬ (((bri.toNat = 1 ∨ bri.toNat = 2 ∨ bri.toNat = 3 ∨ bri.toNat = 5) ∧ ¬ cm = 0b00#2) ∨ (11 ≤ bri.toNat ∧ cm = 0b00#2))) := by
  decide

/-- Settles O22: the Layer II check alone decides, and the default matrix holds 0 at the listed pairs. -/
theorem defaultLayerIIPairsAccepted : Obligations.DefaultLayerIIPairsAccepted := by
  intro len data s hrom hlen haccepted hlayer
  refine ⟨_, exec_decode .., ?_⟩
  obtain ⟨-, -, -, hbri, -⟩ := (accepted_iff _).1 haccepted
  have hcell := lookupL2Allowed_default_iff (cm := (parseHeader data).cm) hbri
  rw [writeRsp_rsp, hrom, decodeFunction_of_long _ _ _ hlen.not_gt]
  obtain ⟨⟨-, hone⟩, heq⟩ | ⟨hpasses, hok, -⟩ := decodeHeader_default haccepted s.widths data
  · rw [if_neg (hcell.1 hone), heq]
    exact ⟨rfl, rfl⟩
  · rw [if_pos (not_not.1 (mt hcell.2 fun hone => hpasses ⟨hlayer, hone⟩))]
    exact hok

/-- With the default tables DECODE's OK responses have sizes in R165's range. -/
theorem decodeFunction_default_size {ws : Widths} {len : Nat} {data : Word} (hwidths : ws.ok = true)
    (hok : (decodeFunction defaultTables ws len data).status = statusOk) :
    24 ≤ (decodeFunction defaultTables ws len data).frameSize ∧ (decodeFunction defaultTables ws len data).frameSize ≤ 2881 := by
  have hlong := not_short_of_status_ok hok
  rw [decodeFunction_of_long _ _ _ hlong] at hok ⊢
  obtain ⟨haccepted, hcell, hbr, hsr⟩ := decodeHeader_of_status_ok hok
  rw [(decodeHeader_exact data (by decide) hwidths haccepted hcell hbr hsr).1]
  exact exactSize_default_range haccepted

/-- Settles O42: an accept leaves a size in the range, a hold the old one, a reset or a take no response. -/
theorem stepKeepsDefaultSizeRange : Obligations.StepKeepsDefaultSizeRange := by
  intro s t hrom hwidths hsize h
  obtain ⟨hrom', hwidths'⟩ := stepKeepsTables s t h
  refine ⟨hrom'.trans hrom, hwidths' ▸ hwidths, ?_⟩
  obtain ⟨-, rfl⟩ | ⟨-, -, rfl⟩ | ⟨-, -, -, rfl⟩ | ⟨-, -, -, rfl⟩ := step_cases_decode h
  · intro hfull
    cases hfull
  · intro _ hok
    rw [writeRsp_rsp, hrom] at hok ⊢
    exact decodeFunction_default_size hwidths hok
  · intro hfull
    cases hfull
  · exact hsize

end Sys2Proof.Machine
end
